-- ==== Sys2Proof/Word.lean ====
section
/-! DEFINITION. The widths the spec gives its values (00_scope.md R8, 10_state.md R23 to R43). -/

namespace Sys2Proof

/-- A register, a command word, a symbol word or a table word: one 32-bit unit (20_memory.md R75). -/
abbrev Word := BitVec 32

/-- A byte of host memory or of a staging area (20_memory.md R70, R72). -/
abbrev Byte := BitVec 8

/-- A 16-bit position or counter: CUR, RD, FILL, REMAIN, NEXT, K (10_state.md R31, R42, R43). -/
abbrev Pos := BitVec 16

/-- A duration in ticks, DUR_BITS = 15 wide (00_scope.md R6, 30_encoding.md R95). -/
abbrev Dur := BitVec 15

/-- A number of reset or latch words (10_state.md R31). -/
abbrev Count := BitVec 8

/-- A port index as the command word carries it, unsigned (30_encoding.md R90). -/
abbrev PortId := BitVec 4

end Sys2Proof
end

