-- ==== Sys2Proof/Syntax.lean ====
section
/-! DEFINITION. The instructions of spec/opcode_table.json, one constructor a row, and the four encoded forms
they are read from (30_encoding.md R108). Ports of filler and transmitter rows are those of the agent that
takes the step (00_scope.md R3). -/

namespace Sys2Proof

/-- One constructor for each row of spec/opcode_table.json. The two ILLEGAL_CMD rows are `illegalCmd` and
`illegalCmdHigh` (log entry 22). -/
inductive Instr where
  /-- HOST_WR (40_driver_interface.md R120). -/
  | hostWr (offset data : Word)
  /-- HOST_RD (R122). -/
  | hostRd (offset : Word)
  /-- NOP (R125). -/
  | nop
  /-- BEGIN (R127). -/
  | begin
  /-- APPLY (R129). -/
  | apply
  /-- ARM p (42_encoder_engine.md R186). -/
  | arm (p : PortId)
  /-- CLRERR p (40_driver_interface.md R140). -/
  | clrerr (p : PortId)
  /-- TEARDOWN p (R145). -/
  | teardown (p : PortId)
  /-- ILLEGAL_CMD, the row of OP 0x6, 0x7 and of words that fail the checks of the rows above it (R123). -/
  | illegalCmd (w : Word)
  /-- ILLEGAL_CMD, the row of OP 0x8 to 0xF (R123). -/
  | illegalCmdHigh (w : Word)
  /-- SYM_END, a consumed word with DUR0 = 0 (43_transmitter.md R232). -/
  | symEnd (p : PortId) (lvl1 : Bool) (dur1 : Dur) (lvl0 : Bool)
  /-- SYM_HALF_END, a consumed word with DUR0 ≠ 0 and DUR1 = 0 (R234). -/
  | symHalfEnd (p : PortId) (lvl1 lvl0 : Bool) (dur0 : Dur)
  /-- SYM_EMIT, any other consumed word (R233). -/
  | symEmit (p : PortId) (lvl1 : Bool) (dur1 : Dur) (lvl0 : Bool) (dur0 : Dur)
  /-- SYM_UNDERRUN, the transmitter step that finds no word (R236). -/
  | symUnderrun (p : PortId)
  /-- FILL_START, vector 0 01 x (42_encoder_engine.md R192); `z` is the don't-care bit. -/
  | fillStart (p : PortId) (z : Bool)
  /-- FILL_REFILL, vector 0 10 0 (R196). -/
  | fillRefill (p : PortId)
  /-- FILL_END, vector 0 10 1 (R203). -/
  | fillEnd (p : PortId)
  /-- FILL_DONE, vector 1 11 x (R207); `z` is the don't-care bit. -/
  | fillDone (p : PortId) (z : Bool)
  /-- SPURIOUS_CAUSE, any other event vector (R210). -/
  | spuriousCause (p : PortId) (e : BitVec 4)
  deriving DecidableEq, Repr

/-- What a command word asks for (30_encoding.md R90 to R92). -/
inductive Command where
  | nop
  | begin
  | apply
  | arm (p : PortId)
  | clrerr (p : PortId)
  | teardown (p : PortId)
  | illegal (w : Word)
  | illegalHigh (w : Word)
  deriving DecidableEq, Repr

/-- The encoded forms of 30_encoding.md R108, as an agent presents them to the machine. A command word arrives
as the DATA of a write to CMD (R90), so it has no form of its own. -/
inductive Code where
  /-- The host bus transaction WE, OFFSET, DATA (R89), and how many bytes wide the access is. -/
  | bus (we : Bool) (bytes : Nat) (offset data : Word)
  /-- A symbol word consumed by the transmitter of port p (R95). -/
  | sym (p : PortId) (w : Word)
  /-- An event vector formed by the filler of port p (R100). -/
  | event (p : PortId) (e : BitVec 4)
  /-- The transmitter of port p steps and its window is empty: no word (43_transmitter.md R236). -/
  | drained (p : PortId)
  deriving DecidableEq, Repr

/-- Why an encoded form is no instruction (20_memory.md R77). -/
inductive Reject where
  /-- The access is not 32 bits wide. -/
  | accessWidth
  /-- OFFSET is not divisible by 4. -/
  | misaligned
  deriving DecidableEq, Repr

end Sys2Proof
end

