-- ==== Sys2Proof/Decode.lean ====
section
/-! DEFINITION. The decoder of 30_encoding.md R108, total on every encoded form, rejecting by name; then the
encoder; then the reading of one row of spec/opcode_table.json. -/

namespace Sys2Proof

/-- OFFSET is word aligned (20_memory.md R77). -/
def aligned (offset : Word) : Bool := offset.extractLsb' 0 2 == 0#2

/-- The offset of CMD (10_state.md R51). -/
def cmdOffset : Word := 0x018#32

/-- OP of a command word, bits [3:0] (30_encoding.md R90). -/
def cmdOp (w : Word) : BitVec 4 := w.extractLsb' 0 4

/-- RSV0 of a command word, bits [7:4] (R90). -/
def cmdRsv0 (w : Word) : BitVec 4 := w.extractLsb' 4 4

/-- PORT of a command word, bits [11:8] (R90). -/
def cmdPort (w : Word) : PortId := w.extractLsb' 8 4

/-- RSV1 of a command word, bits [31:12] (R90). -/
def cmdRsv1 (w : Word) : BitVec 20 := w.extractLsb' 12 20

/-- A command word from its OP and PORT, reserved bits 0 (R90). -/
def cmdWord (op : BitVec 4) (p : PortId) : Word := 0#20 ++ p ++ 0#4 ++ op

/-- Is the command word illegal by a condition (a), (b) or (c) of 30_encoding.md R92? Condition (d), PORT at or
beyond PORT_LIMIT, is the machine's to check: see `illegalWord` (log entry 15). -/
def illegalForm (w : Word) : Bool :=
  decide (6 ≤ (cmdOp w).toNat) || cmdRsv0 w != 0 || cmdRsv1 w != 0 ||
    (decide ((cmdOp w).toNat ≤ 2) && cmdPort w != 0)

/-- Illegal(DATA) of 40_driver_interface.md R123 on a machine with `limit` ports: a condition (a) to (d) of
30_encoding.md R92 holds. -/
def illegalWord (limit : Nat) (w : Word) : Bool :=
  illegalForm w || (decide (3 ≤ (cmdOp w).toNat) && decide (limit ≤ (cmdPort w).toNat))

/-- The command of a command word (30_encoding.md R91, R92 (a) to (c)). -/
def commandOf (w : Word) : Command :=
  if illegalForm w then (if (cmdOp w).msb then .illegalHigh w else .illegal w)
  else match (cmdOp w).toNat with
    | 0 => .nop
    | 1 => .begin
    | 2 => .apply
    | 3 => .arm (cmdPort w)
    | 4 => .clrerr (cmdPort w)
    | _ => .teardown (cmdPort w)

/-- A command as an instruction. -/
def commandInstr : Command → Instr
  | .nop => .nop
  | .begin => .begin
  | .apply => .apply
  | .arm p => .arm p
  | .clrerr p => .clrerr p
  | .teardown p => .teardown p
  | .illegal w => .illegalCmd w
  | .illegalHigh w => .illegalCmdHigh w

/-- DUR0 of a symbol word, bits [14:0] (30_encoding.md R95). -/
def symDur0 (w : Word) : Dur := w.extractLsb' 0 15

/-- LVL0 of a symbol word, bit [15] (R95). -/
def symLvl0 (w : Word) : Bool := w.getLsbD 15

/-- DUR1 of a symbol word, bits [30:16] (R95). -/
def symDur1 (w : Word) : Dur := w.extractLsb' 16 15

/-- LVL1 of a symbol word, bit [31] (R95). -/
def symLvl1 (w : Word) : Bool := w.getLsbD 31

/-- A symbol word from its fields: LVL1, DUR1, LVL0, DUR0 from the most significant bit down (R95). -/
def symWord (lvl1 : Bool) (dur1 : Dur) (lvl0 : Bool) (dur0 : Dur) : Word :=
  BitVec.ofBool lvl1 ++ dur1 ++ BitVec.ofBool lvl0 ++ dur0

/-- The class of a consumed word, tested in the order of 30_encoding.md R97. -/
def decodeSym (p : PortId) (w : Word) : Instr :=
  if symDur0 w = 0 then .symEnd p (symLvl1 w) (symDur1 w) (symLvl0 w)
  else if symDur1 w = 0 then .symHalfEnd p (symLvl1 w) (symLvl0 w) (symDur0 w)
  else .symEmit p (symLvl1 w) (symDur1 w) (symLvl0 w) (symDur0 w)

/-- CAUSE of an event vector, bit 3 (30_encoding.md R100). -/
def eventCause (e : BitVec 4) : Bool := e.getLsbD 3

/-- STATE of an event vector, bits 2:1 (R100). -/
def eventState (e : BitVec 4) : BitVec 2 := e.extractLsb' 1 2

/-- Z of an event vector, bit 0 (R100). -/
def eventZ (e : BitVec 4) : Bool := e.getLsbD 0

/-- An event vector from CAUSE, STATE and Z (R100). -/
def eventVector (cause : Bool) (st : BitVec 2) (z : Bool) : BitVec 4 :=
  BitVec.ofBool cause ++ st ++ BitVec.ofBool z

/-- The activation an event vector selects (30_encoding.md R100). -/
def decodeEvent (p : PortId) (e : BitVec 4) : Instr :=
  if eventCause e = false ∧ eventState e = 1 then .fillStart p (eventZ e)
  else if eventCause e = false ∧ eventState e = 2 then (if eventZ e then .fillEnd p else .fillRefill p)
  else if eventCause e = true ∧ eventState e = 3 then .fillDone p (eventZ e)
  else .spuriousCause p e

/-- A host bus transaction: HOST_WR or HOST_RD by WE, then, for a write to CMD, the command its DATA carries
(30_encoding.md R89, R108; 40_driver_interface.md R121; log entry 24). -/
def decodeBus (we : Bool) (offset data : Word) : Instr :=
  if we then (if offset = cmdOffset then commandInstr (commandOf data) else .hostWr offset data)
  else .hostRd offset

/-- The decoder. A host access that is not 32 bits wide or not aligned is no instruction (20_memory.md R77). -/
def decode : Code → Except Reject Instr
  | .bus we bytes offset data =>
    if bytes ≠ 4 then .error .accessWidth
    else if aligned offset then .ok (decodeBus we offset data)
    else .error .misaligned
  | .sym p w => .ok (decodeSym p w)
  | .event p e => .ok (decodeEvent p e)
  | .drained p => .ok (.symUnderrun p)

/-- A command word on the bus: a 32-bit HOST_WR to CMD (30_encoding.md R90). -/
def commandCode (w : Word) : Code := .bus true 4 cmdOffset w

/-- The encoded form of an instruction (30_encoding.md R89 to R100). A HOST_RD carries no DATA to the machine:
DATA is what it returns, so it is 0 here. -/
def encode : Instr → Code
  | .hostWr offset data => .bus true 4 offset data
  | .hostRd offset => .bus false 4 offset 0
  | .nop => commandCode (cmdWord 0 0)
  | .begin => commandCode (cmdWord 1 0)
  | .apply => commandCode (cmdWord 2 0)
  | .arm p => commandCode (cmdWord 3 p)
  | .clrerr p => commandCode (cmdWord 4 p)
  | .teardown p => commandCode (cmdWord 5 p)
  | .illegalCmd w => commandCode w
  | .illegalCmdHigh w => commandCode w
  | .symEnd p lvl1 dur1 lvl0 => .sym p (symWord lvl1 dur1 lvl0 0)
  | .symHalfEnd p lvl1 lvl0 dur0 => .sym p (symWord lvl1 0 lvl0 dur0)
  | .symEmit p lvl1 dur1 lvl0 dur0 => .sym p (symWord lvl1 dur1 lvl0 dur0)
  | .symUnderrun p => .drained p
  | .fillStart p z => .event p (eventVector false 1 z)
  | .fillRefill p => .event p (eventVector false 2 false)
  | .fillEnd p => .event p (eventVector false 2 true)
  | .fillDone p z => .event p (eventVector true 3 z)
  | .spuriousCause p e => .event p e

/-- Does the event vector select one of the four FILL_ rows? -/
def selectsFill (e : BitVec 4) : Bool :=
  match decodeEvent 0 e with
  | .spuriousCause _ _ => false
  | _ => true

/-- Which encoded form a number of `nbits` bits is, by spec/opcode_table.json's own widths. The table numbers the
words of its cmd, sym and event rows from the same bit 0, so the bits alone do not always say which table they
belong to (0x00000000 is NOP and SYM_END both). DESIGN CHOICE, log entry 13: no bits are the step without a word;
8 bits are an event vector where they select a FILL_ row or fit no cmd row, else a command word; 16 bits are a
symbol word (the SYM_END row fixes only DUR0); 32 bits are a command word where RSV1 = 0 (R90), else a symbol
word; 65 bits, in 9 bytes, are the bus transaction of R89 with WE the most significant. Port 0 takes the step. -/
def tableCode (nbits w : Nat) : Option Code :=
  if nbits = 0 then some (.drained 0)
  else if nbits ≤ 8 then
    (if w < 2 ∨ (w < 16 ∧ selectsFill (BitVec.ofNat 4 w) = true) then some (.event 0 (BitVec.ofNat 4 w))
     else some (commandCode (BitVec.ofNat 32 w)))
  else if nbits ≤ 16 then some (.sym 0 (BitVec.ofNat 32 w))
  else if nbits ≤ 32 then
    (if w < 0x1000 then some (commandCode (BitVec.ofNat 32 w)) else some (.sym 0 (BitVec.ofNat 32 w)))
  else if nbits ≤ 72 then
    some (.bus (w.testBit 64) 4 (BitVec.ofNat 32 (w / 2 ^ 32)) (BitVec.ofNat 32 w))
  else none

/-- The instruction the decoder reads from an instruction whose bits are `w`, numbered as spec/opcode_table.json
numbers them. -/
def decodeTableWord (nbits w : Nat) : Option Instr :=
  match tableCode nbits w with
  | none => none
  | some c =>
    match decode c with
    | .ok i => some i
    | .error _ => none

end Sys2Proof
end

