-- ==== Sys2Proof/Config.lean ====
section
/-! DEFINITION. The parameters of 00_scope.md R6, the test instantiation TI of R7, and the free values:
constants without a body, of which nothing can be proved, for what 93_implementation_defined.md
treats as "any value". -/

namespace Sys2Proof.Config

/-- GPIO_SENTINEL, the identifier meaning "unassigned": 0xFF (00_scope.md R6). -/
def gpioSentinel : Byte := 0xFF#8

/-- The parameters of 00_scope.md R6, but for PORT_LIMIT (the number of ports a state holds) and the two
constants DUR_BITS and GPIO_SENTINEL. The model takes them as data that no step changes. DESIGN CHOICE, log
entry 1: safe, a statement about every state is about every parameter. -/
structure Params where
  /-- W: symbol words in one port's window. -/
  w : Nat
  /-- LWM: the low-watermark threshold, in symbol words. -/
  lwm : Nat
  /-- STAGE_CAP: bytes in one staging area. -/
  stageCap : Nat
  /-- HOST_MEM_SIZE: bytes of host memory. -/
  hostMemSize : Nat
  /-- BASE: where the register block lies in the host's address space. -/
  base : Word
  /-- DEFAULT_T0H -/
  defaultT0h : Dur
  /-- DEFAULT_T0L -/
  defaultT0l : Dur
  /-- DEFAULT_T1H -/
  defaultT1h : Dur
  /-- DEFAULT_T1L -/
  defaultT1l : Dur
  /-- DEFAULT_RESET_DUR -/
  defaultResetDur : Dur
  /-- DEFAULT_LATCH_DUR -/
  defaultLatchDur : Dur
  /-- DEFAULT_RESET_COUNT -/
  defaultResetCount : Count
  /-- DEFAULT_LATCH_COUNT -/
  defaultLatchCount : Count
  /-- DRIVER_NAME, its ASCII bytes. -/
  driverName : List Byte
  /-- SERVICE_BOUND; `none` is the spec's infinity. -/
  serviceBound : Option Nat
  /-- TICK: carried because R6 lists it; no rule reads it (70_reset_and_hazards.md R300). -/
  tick : Nat
  deriving DecidableEq, Repr

/-- The constraints of 00_scope.md R6 on the sizes. -/
abbrev Params.sizesOk (par : Params) : Prop :=
  par.w % 2 = 0 ∧ 16 ≤ par.w ∧ par.w ≤ 65535 ∧ 1 ≤ par.lwm ∧ par.lwm + 8 ≤ par.w ∧
  1 ≤ par.stageCap ∧ par.stageCap ≤ 65535 ∧ 1 ≤ par.hostMemSize ∧ par.hostMemSize ≤ 2 ^ 32 ∧
  par.base.toNat % 4 = 0

/-- The constraints of 00_scope.md R6 on the default values and the name. -/
abbrev Params.defaultsOk (par : Params) : Prop :=
  par.defaultT0h ≠ 0 ∧ par.defaultT0l ≠ 0 ∧ par.defaultT1h ≠ 0 ∧ par.defaultT1l ≠ 0 ∧
  par.defaultResetDur ≠ 0 ∧ par.defaultLatchDur ≠ 0 ∧
  par.defaultResetCount.toNat ≤ par.w ∧ par.defaultLatchCount.toNat + par.lwm + 1 ≤ par.w ∧
  par.driverName.length ≤ 16 ∧ ∀ b ∈ par.driverName, b.toNat < 128

/-- The parameters meet every constraint of 00_scope.md R6. -/
abbrev Params.wf (par : Params) : Prop := par.sizesOk ∧ par.defaultsOk

/-- PORT_LIMIT of the test instantiation (00_scope.md R7). -/
def tiPortLimit : Nat := 2

/-- The test instantiation TI (00_scope.md R7). TICK has no value there: DESIGN CHOICE 1, log entry 1. -/
def ti : Params :=
  { w := 16, lwm := 8, stageCap := 64, hostMemSize := 0x1000, base := 0,
    defaultT0h := 4, defaultT0l := 8, defaultT1h := 8, defaultT1l := 4,
    defaultResetDur := 300, defaultLatchDur := 300, defaultResetCount := 1, defaultLatchCount := 1,
    driverName := [0x50#8, 0x58#8, 0x45#8, 0x4E#8, 0x43#8], serviceBound := none, tick := 1 }

/-- FREE VALUE. The 32 bits read from a symbol RAM word that no filler step has written since reset, or from a
TABLE word while TABLE_VALID = 0 (10_state.md R58, R59; 93_implementation_defined.md: "any value"), at the
draw of the given number. -/
opaque freeWord : Nat → Word

/-- FREE VALUE. A staging byte that the last ARM did not write, by draw number and index (20_memory.md R72;
93_implementation_defined.md: "any value"). -/
opaque freeStageByte : Nat → Nat → Byte

/-- FREE VALUE. What host memory holds before anything has written it, by address: "any value. An input to
the model" (20_memory.md R70; 93_implementation_defined.md). -/
opaque hostMemInitial : Nat → Byte

end Sys2Proof.Config
end

