-- ==== Sys2Proof/Machine/State.lean ====
section
/-! DEFINITION. The state the spec gives PXENC (10_state.md, 20_memory.md), as plain data, and its reset
(70_reset_and_hazards.md R280). -/

namespace Sys2Proof.Machine

/-- The reasons a step ends in a fault (60_exceptions.md R262: faults mark where the model stops claiming anything about
the chip, and are never final). -/
inductive Fault where
  /-- Raised by PutSym on a full window (42_encoder_engine.md R182). Safe: unreachable under R49. -/
  | windowOverflow
  /-- Raised by a filler step whose event vector selects no activation (R210). Safe: unreachable under R49. -/
  | spuriousCause
  /-- Raised by a collaborator's write to an address at or beyond HOST_MEM_SIZE, which does not exist
  (20_memory.md R70). The model's own reason, log entry 12. Safe: the model stops. -/
  | noHostMemory
  deriving DecidableEq, Repr

/-- The reasons a step is refused. -/
inductive Refusal where
  /-- Answered by exec for an instruction that has no meaning yet. Safe: the model stops. -/
  | notModelled (mnemonic : String)
  /-- Answered to a host access that is not 32 bits wide (20_memory.md R77: "A model refuses it"). Safe. -/
  | accessWidth
  /-- Answered to a host access whose offset is not divisible by 4 (20_memory.md R77). Safe. -/
  | misaligned
  /-- Answered to a filler or transmitter execution named for a port the machine does not have: no such agent
  exists (00_scope.md R3, 10_state.md R22), and no step fetches one. Log entry 16. Safe. -/
  | noSuchPort
  deriving DecidableEq, Repr

/-- P[p].STATE (10_state.md R40). -/
inductive FrameState where
  | idle
  | frameStart
  | streaming
  | frameEnd
  deriving DecidableEq, Repr

/-- RESULT.CODE: the seven values a command writes (60_exceptions.md R250); 7 to 15 are never written. -/
inductive ResultCode where
  | ok
  | busy
  | disabled
  | illegal
  | deferred
  | notBegun
  | addrErr
  deriving DecidableEq, Repr

/-- G.RESULT (10_state.md R23). -/
structure Result where
  code : ResultCode
  port : PortId
  accepted : Bool
  deriving DecidableEq, Repr

/-- One port's configuration, effective or shadow (10_state.md R31). -/
structure PortConfig where
  en : Bool
  inv : Bool
  doneIe : Bool
  gpioId : Byte
  t0h : Dur
  t0l : Dur
  t1h : Dur
  t1l : Dur
  resetDur : Dur
  resetCount : Count
  latchDur : Dur
  latchCount : Count
  /-- K, the bytes of a frame. -/
  k : Pos
  src : Word
  deriving DecidableEq, Repr

/-- A whole configuration object: what Validate takes and returns (40_driver_interface.md R127, R132). -/
structure FullConfig where
  n : BitVec 8
  ui : Word
  ports : List PortConfig
  deriving DecidableEq, Repr

/-- One entry of the symbol table: its word 0 and word 1 (10_state.md R45). -/
structure Entry where
  w0 : Word
  w1 : Word
  deriving DecidableEq, Repr

/-- P[p].TABLE, one entry for each 2-bit group (10_state.md R45). -/
structure SymTable where
  e0 : Entry
  e1 : Entry
  e2 : Entry
  e3 : Entry
  deriving DecidableEq, Repr

/-- An entry of TRACE[p] (10_state.md R48). -/
inductive TraceEntry where
  | pulse (level : Bool) (duration : Dur)
  | underrun
  deriving DecidableEq, Repr

/-- One port: its configuration twice (10_state.md R30), its engine state (R40 to R43), its table (R45), its staging
area (20_memory.md R72) and its output observation (R48). -/
structure Port where
  /-- The effective configuration. -/
  cfg : PortConfig
  /-- The shadow configuration. -/
  sh : PortConfig
  /-- Bit p of G.PRESENT (10_state.md R23; log entry 21). -/
  present : Bool
  state : FrameState
  txActive : Bool
  lwmIe : Bool
  txdoneIe : Bool
  txdoneFlag : Bool
  starved : Bool
  tdPending : Bool
  padOut : Bool
  errBusy : Bool
  errUnderrun : Bool
  done : Bool
  tableValid : Bool
  cur : Pos
  rd : Pos
  fill : Pos
  remain : Pos
  next : Pos
  lookups : Word
  frames : Word
  table : SymTable
  /-- STAGE[p]: the bytes the last ARM wrote, index 0 first; a byte beyond them has no value (log entry 9). -/
  stage : List Byte
  trace : List TraceEntry
  /-- The model's own: the ghost counter LAT[p] (43_transmitter.md R238). -/
  lat : Nat
  /-- The model's own: an Underrun was recorded since the last ARM (log entry 18). -/
  corrupt : Bool
  deriving DecidableEq, Repr

/-- One turn of an agent or of the world outside: who takes the next step (20_memory.md R80; log entry 2). -/
inductive Turn where
  /-- The host performs a register access: write or read, its width in bytes, its address, its DATA (R77, R89). -/
  | host (we : Bool) (bytes : Nat) (addr data : Word)
  /-- The filler of port p steps if it can (42_encoder_engine.md R190). -/
  | filler (p : PortId)
  /-- The transmitter of port p steps if it can (43_transmitter.md R230). -/
  | transmitter (p : PortId)
  /-- The collaborator, or the host, writes a byte of host memory (20_memory.md R70, R82). -/
  | memWrite (addr : Word) (b : Byte)
  /-- The reset event (70_reset_and_hazards.md R280). -/
  | reset
  deriving DecidableEq, Repr

/-- A symbol RAM word by its index: what has been written since reset (20_memory.md R74). -/
abbrev SymRam := List (Nat × Word)

/-- Host memory: what has been written to it, by address (20_memory.md R70). -/
abbrev HostMem := List Host.Cell

/-- The machine. Its number of ports is PORT_LIMIT. -/
structure State where
  /-- The parameters of 00_scope.md R6; no step changes them. -/
  par : Config.Params
  begun : Bool
  n : BitVec 8
  nSh : BitVec 8
  ui : Word
  uiSh : Word
  result : Result
  ports : List Port
  symRam : SymRam
  hostMem : HostMem
  /-- The model's own: the turns still to come (log entry 2). -/
  agenda : List Turn
  /-- The model's own: DATA of the last HOST_RD (30_encoding.md R89; log entry 6). -/
  busData : Word
  /-- The model's own: counts the steps taken, so that each step's free value is a fresh one (log entry 7). -/
  draws : Nat
  deriving DecidableEq, Repr

/-- A port's configuration at reset, both copies (10_state.md R31). -/
def PortConfig.reset (par : Config.Params) : PortConfig :=
  { en := false, inv := false, doneIe := false, gpioId := Config.gpioSentinel,
    t0h := par.defaultT0h, t0l := par.defaultT0l, t1h := par.defaultT1h, t1l := par.defaultT1l,
    resetDur := par.defaultResetDur, resetCount := par.defaultResetCount,
    latchDur := par.defaultLatchDur, latchCount := par.defaultLatchCount, k := 0, src := 0 }

/-- The table at reset. The spec calls its content unspecified (10_state.md R45): DESIGN CHOICE every word 0, log
entry 8. A host read of it while TABLE_VALID = 0 does not answer this value (R58). -/
def SymTable.reset : SymTable := ⟨⟨0, 0⟩, ⟨0, 0⟩, ⟨0, 0⟩, ⟨0, 0⟩⟩

/-- A port at reset (70_reset_and_hazards.md R280). The ghosts LAT and corrupt: DESIGN CHOICE, log entries 4, 18. -/
def Port.reset (par : Config.Params) : Port :=
  { cfg := PortConfig.reset par, sh := PortConfig.reset par, present := false, state := .idle,
    txActive := false, lwmIe := false, txdoneIe := false, txdoneFlag := false, starved := false,
    tdPending := false, padOut := false, errBusy := false, errUnderrun := false, done := false,
    tableValid := false, cur := 0, rd := 0, fill := 0, remain := 0, next := 0, lookups := 0, frames := 0,
    table := SymTable.reset, stage := [], trace := [], lat := 0, corrupt := false }

/-- The machine right after reset, with PORT_LIMIT = `limit` and the given parameters (R280, R281), nothing in
memory and no turn to come. busData and draws: DESIGN CHOICE 0, log entries 6 and 7. -/
def State.resetOf (limit : Nat) (par : Config.Params) : State :=
  { par := par, begun := false, n := BitVec.ofNat 8 limit, nSh := BitVec.ofNat 8 limit, ui := 0, uiSh := 0,
    result := ⟨.ok, 0, false⟩, ports := List.replicate limit (Port.reset par),
    symRam := [], hostMem := [], agenda := [], busData := 0, draws := 0 }

/-- The machine right after reset, under the test instantiation TI (00_scope.md R7; log entry 1). -/
def State.reset : State := State.resetOf Config.tiPortLimit Config.ti

end Sys2Proof.Machine
end

