-- ==== Sys2Proof/Machine/Flags.lean ====
section
/-! DEFINITION. Every condition and status word computed from a port's fields: the levels, the two filler causes, the
event vector, the transmitter's enable, the latency count, the IRQ output, and the status registers' words. PXENC
has no arithmetic condition codes (10_state.md R60). -/

namespace Sys2Proof.Machine

/-- ON(p), the pin level of the "high time" half, 1 = high (40_driver_interface.md R135). -/
def onLevel (c : PortConfig) : Bool := !c.inv

/-- OFF(p) (40_driver_interface.md R135). -/
def offLevel (c : PortConfig) : Bool := c.inv

/-- The code of a state, bits [1:0] of PSTATUS (10_state.md R40). -/
def stateCode : FrameState → BitVec 2
  | .idle => 0
  | .frameStart => 1
  | .streaming => 2
  | .frameEnd => 3

/-- The code of a command outcome (60_exceptions.md R250). -/
def resultCode : ResultCode → BitVec 4
  | .ok => 0
  | .busy => 1
  | .disabled => 2
  | .illegal => 3
  | .deferred => 4
  | .notBegun => 5
  | .addrErr => 6

/-- LWM_pending (60_exceptions.md R255): level-sensitive. -/
def lwmPending (par : Config.Params) (P : Port) : Bool := P.lwmIe && decide (P.fill.toNat ≤ par.lwm)

/-- TXDONE_pending (60_exceptions.md R256). -/
def txdonePending (P : Port) : Bool := P.txdoneIe && P.txdoneFlag

/-- Some cause of the port's filler is pending (42_encoder_engine.md R190). -/
def causePending (par : Config.Params) (P : Port) : Bool := txdonePending P || lwmPending par P

/-- Activation entry, the analogue of taking an exception (60_exceptions.md R260): with a cause pending, the event
vector that selects the activation, CAUSE = 1 for TXDONE, which goes first (42_encoder_engine.md R190;
30_encoding.md R100). Nothing is saved, and no mode or mask changes. `none`: the filler has no step. -/
def activationEntry (par : Config.Params) (P : Port) : Option (BitVec 4) :=
  if causePending par P then
    some (eventVector (txdonePending P) (stateCode P.state) (P.remain == 0))
  else none

/-- The transmitter has a step (43_transmitter.md R230). -/
def txEnabled (P : Port) : Bool := P.txActive && (P.fill != 0 || !P.starved)

/-- LAT[p] after a transmitter step (43_transmitter.md R238): one more when a filler cause is pending. -/
def latAfterTx (par : Config.Params) (P : Port) : Nat := if causePending par P then P.lat + 1 else P.lat

/-- SERVICE_BOUND admits a transmitter step of the port now (43_transmitter.md R238). -/
def txAdmitted (par : Config.Params) (P : Port) : Bool :=
  match par.serviceBound with
  | none => true
  | some bound => decide (latAfterTx par P ≤ bound)

/-- The host completion interrupt of one port (60_exceptions.md R258). -/
def portIrq (P : Port) : Bool := P.done && P.cfg.doneIe

/-- The IRQ output (60_exceptions.md R258). -/
def irqLevel (s : State) : Bool := s.ports.any portIrq

/-- A word with bit p taken from port p by `f`, bit 0 the first port's (10_state.md R51). -/
def portBits (f : Port → Bool) : List Port → Word
  | [] => 0
  | P :: rest => (portBits f rest <<< 1) ||| (BitVec.ofBool (f P)).setWidth 32

/-- PRESENT (10_state.md R51). -/
def presentWord (s : State) : Word := portBits Port.present s.ports

/-- IRQ_STATUS (10_state.md R51). -/
def irqStatusWord (s : State) : Word := portBits portIrq s.ports

/-- GSTATUS: [0] BEGUN, [1] IRQ (10_state.md R51). -/
def gstatusWord (s : State) : Word := 0#30 ++ BitVec.ofBool (irqLevel s) ++ BitVec.ofBool s.begun

/-- RESULT: [3:0] CODE, [11:8] PORT, [16] ACCEPTED (10_state.md R51). -/
def resultWord (r : Result) : Word :=
  0#15 ++ BitVec.ofBool r.accepted ++ 0#4 ++ r.port ++ 0#4 ++ resultCode r.code

/-- PSTATUS (10_state.md R53), from bit 12 down: TXDONE_FLAG, STARVED, DONE, ERR_UNDERRUN, ERR_BUSY, PAD_OUT,
TD_PENDING, TXDONE_IE, LWM_IE, TABLE_VALID, TX_ACTIVE, STATE. -/
def pstatusWord (P : Port) : Word :=
  0#19 ++ BitVec.ofBool P.txdoneFlag ++ BitVec.ofBool P.starved ++ BitVec.ofBool P.done ++
    BitVec.ofBool P.errUnderrun ++ BitVec.ofBool P.errBusy ++ BitVec.ofBool P.padOut ++
    BitVec.ofBool P.tdPending ++ BitVec.ofBool P.txdoneIe ++ BitVec.ofBool P.lwmIe ++
    BitVec.ofBool P.tableValid ++ BitVec.ofBool P.txActive ++ stateCode P.state

end Sys2Proof.Machine
end

