-- ==== Sys2Proof/Machine/Ops.lean ====
section
/-! DEFINITION. The named operations over memory and ports which the meanings share: sparse memories, access to P[p],
RESULT, PutSym and Consume, and the entry and end of an activation (the analogues of taking an exception and of
returning from one: 60_exceptions.md R260, R261). -/

namespace Sys2Proof.Machine

/-- The answer of an instruction. -/
abbrev Res := Host.Outcome State Fault Refusal

/-- An operation that may fault, as an answer: on a fault no write is made (60_exceptions.md R260). -/
def answer : Except Fault State → Res
  | .ok s => .next s
  | .error r => .fault r

/-! ### Sparse memories: entries at strictly rising keys; a key that is not listed holds no value. -/

/-- What has been written at key `a`. -/
def cellRead {α : Type} : List (Nat × α) → Nat → Option α
  | [], _ => none
  | (k, v) :: rest, a => if a = k then some v else cellRead rest a

/-- Write `x` at key `a`, keeping the keys strictly rising. -/
def cellWrite {α : Type} : List (Nat × α) → Nat → α → List (Nat × α)
  | [], a, x => [(a, x)]
  | (k, v) :: rest, a, x =>
    if a < k then (a, x) :: (k, v) :: rest
    else if a = k then (a, x) :: rest
    else (k, v) :: cellWrite rest a x

/-- The canonical form: keys strictly rise. An unlisted key reads as no value, which no entry can equal, so equal
memories are equal lists (log entry 11). -/
def cellsWf {α : Type} : List (Nat × α) → Bool
  | [] => true
  | [_] => true
  | (k, _) :: (k', v') :: rest => decide (k < k') && cellsWf ((k', v') :: rest)

/-- Every key lies below `bound`. -/
def cellsBelow {α : Type} (bound : Nat) (m : List (Nat × α)) : Bool := m.all fun c => decide (c.1 < bound)

/-- MemRead(a, 1) (00_scope.md R9): a byte nothing has written is the free initial contents (20_memory.md R70; log
entry 10). -/
def hostByte (m : HostMem) (a : Nat) : Byte := (cellRead m a).getD (Config.hostMemInitial a)

/-- The bytes of host memory from `a` on. -/
def hostBytes (m : HostMem) : Nat → Nat → List Byte
  | _, 0 => []
  | a, n + 1 => hostByte m a :: hostBytes m (a + 1) n

/-! ### Ports -/

/-- What P[p] answers for a port the machine does not have; nothing the machine does depends on it. -/
def blankPort : Port := Port.reset Config.ti

/-- P[p] (00_scope.md R9). -/
def State.port (s : State) (p : PortId) : Port := (s.ports[p.toNat]?).getD blankPort

/-- Replace P[p]. -/
def State.setPort (s : State) (p : PortId) (P : Port) : State := { s with ports := s.ports.set p.toNat P }

/-- p < PORT_LIMIT. -/
def State.hasPort (s : State) (p : PortId) : Bool := decide (p.toNat < s.ports.length)

/-- An execution by an agent of port p: there is none where the machine has no such port (log entry 16). -/
def onAgent (s : State) (p : PortId) (r : Res) : Res := if s.hasPort p then r else .refused .noSuchPort

/-- G.RESULT.CODE and G.RESULT.PORT, ACCEPTED kept (40_driver_interface.md R121). -/
def State.report (s : State) (c : ResultCode) (p : PortId) : State :=
  { s with result := { s.result with code := c, port := p } }

/-- The end of a command: RESULT is written and the host's access is complete (R121). -/
def finish (s : State) (c : ResultCode) (p : PortId) : Res := .next (s.report c p)

/-! ### The window -/

/-- The index after `i` in a window of `w` words: forward, from w - 1 to 0 (42_encoder_engine.md R182, 43_transmitter.md
R231). -/
def nextIndex (w : Nat) (i : Pos) : Pos := if i.toNat = w - 1 then 0 else i + 1

/-- The symbol RAM index of window index `i` of port p: p * W + i (20_memory.md R74). -/
def symIndex (w : Nat) (p : PortId) (i : Nat) : Nat := p.toNat * w + i

/-- A symbol RAM word; one never written since reset is free (10_state.md R59; log entry 7). -/
def symValue (s : State) (i : Nat) : Word := (cellRead s.symRam i).getD (Config.freeWord s.draws)

/-- SymRead(p, i) (20_memory.md R74). -/
def symRead (s : State) (p : PortId) (i : Nat) : Word := symValue s (symIndex s.par.w p i)

/-- SymWrite at a symbol RAM index (20_memory.md R74). -/
def State.setSym (s : State) (i : Nat) (w : Word) : State := { s with symRam := cellWrite s.symRam i w }

/-- What PutSym(p, w) does to the port (42_encoder_engine.md R182). -/
def pushed (w : Nat) (P : Port) : Port := { P with cur := nextIndex w P.cur, fill := P.fill + 1 }

/-- PutSym(p, w) (42_encoder_engine.md R182). -/
def putSym (p : PortId) (w : Word) (s : State) : Except Fault State :=
  if (s.port p).fill.toNat = s.par.w then .error .windowOverflow
  else .ok ((s.setPort p (pushed s.par.w (s.port p))).setSym (symIndex s.par.w p (s.port p).cur.toNat) w)

/-- PutSym of each word in turn. -/
def putSyms (p : PortId) : List Word → State → Except Fault State
  | [], s => .ok s
  | w :: ws, s =>
    match putSym p w s with
    | .ok s' => putSyms p ws s'
    | .error r => .error r

/-- What Consume(p) does to the port (43_transmitter.md R231), with the step's latency count (R238). -/
def consume (par : Config.Params) (P : Port) : Port :=
  { P with rd := nextIndex par.w P.rd, fill := P.fill - 1, starved := false, lat := latAfterTx par P }

/-! ### The end of an activation -/

/-- The end of an activation, the analogue of returning from an exception (60_exceptions.md R261): nothing is
restored; the ghost LAT[p] is 0 after every filler step (43_transmitter.md R238). -/
def activationEnd (P : Port) : Port := { P with lat := 0 }

end Sys2Proof.Machine
end

