-- ==== Sys2Proof/Machine/Validate.lean ====
section
/-! DEFINITION. Configuration as BEGIN, APPLY and TEARDOWN move it: Merge, Validate, the symbol table builder, the pad
rule and Release (40_driver_interface.md R127 to R146, 41_symbol_table.md R160, R161). -/

namespace Sys2Proof.Machine

/-! ### The symbol table builder -/

/-- Sym(p, b): the high time at ON, then the low time at OFF (41_symbol_table.md R160). -/
def bitSymbol (c : PortConfig) (b : Bool) : Word :=
  if b then symWord (offLevel c) c.t1l (onLevel c) c.t1h else symWord (offLevel c) c.t0l (onLevel c) c.t0h

/-- TABLE[v]: the symbol of the group's more significant bit first (41_symbol_table.md R161). -/
def buildEntry (c : PortConfig) (v : BitVec 2) : Entry :=
  ⟨bitSymbol c (v.getLsbD 1), bitSymbol c (v.getLsbD 0)⟩

/-- BuildTable(p), from the effective configuration (41_symbol_table.md R161). -/
def buildTable (c : PortConfig) : SymTable := ⟨buildEntry c 0, buildEntry c 1, buildEntry c 2, buildEntry c 3⟩

/-! ### Validate -/

/-- The channel count clamp needs a correction (40_driver_interface.md R132). -/
def countBad (limit : Nat) (n : BitVec 8) : Bool := decide (n.toNat < 1) || decide (limit < n.toNat)

/-- The clamped channel count: outside 1 to PORT_LIMIT it becomes PORT_LIMIT (R132, 90_conflicts.md C3). -/
def clampCount (limit : Nat) (n : BitVec 8) : BitVec 8 := if countBad limit n then BitVec.ofNat 8 limit else n

/-- EN of port `idx` must be cleared: its index is at or beyond the count, or its GPIO is the sentinel (R132). -/
def enBad (n : BitVec 8) (idx : Nat) (c : PortConfig) : Bool :=
  c.en && (decide (n.toNat ≤ idx) || c.gpioId == Config.gpioSentinel)

/-- A zero duration becomes its default (R133). -/
def orDefault (d dflt : Dur) : Dur := if d = 0 then dflt else d

/-- A value above a bound becomes the bound (R133). -/
def cap {w : Nat} (bound : Nat) (v : BitVec w) : BitVec w := if bound < v.toNat then BitVec.ofNat w bound else v

/-- Validate corrects something of port `idx`, the count being `n` after its clamp (R132, R133). -/
def portBad (par : Config.Params) (n : BitVec 8) (idx : Nat) (c : PortConfig) : Bool :=
  enBad n idx c || c.t0h == 0 || c.t0l == 0 || c.t1h == 0 || c.t1l == 0 || c.resetDur == 0 || c.latchDur == 0 ||
    decide (par.w < c.resetCount.toNat) || decide (par.w - par.lwm - 1 < c.latchCount.toNat) ||
    decide (par.stageCap < c.k.toNat)

/-- The corrected configuration of port `idx` (R132, R133). -/
def fixPort (par : Config.Params) (n : BitVec 8) (idx : Nat) (c : PortConfig) : PortConfig :=
  { c with
    en := c.en && !enBad n idx c
    t0h := orDefault c.t0h par.defaultT0h
    t0l := orDefault c.t0l par.defaultT0l
    t1h := orDefault c.t1h par.defaultT1h
    t1l := orDefault c.t1l par.defaultT1l
    resetDur := orDefault c.resetDur par.defaultResetDur
    latchDur := orDefault c.latchDur par.defaultLatchDur
    resetCount := cap par.w c.resetCount
    latchCount := cap (par.w - par.lwm - 1) c.latchCount
    k := cap par.stageCap c.k }

/-- Every port's correction, from index `idx` on. -/
def fixPorts (par : Config.Params) (n : BitVec 8) : Nat → List PortConfig → List PortConfig
  | _, [] => []
  | idx, c :: cs => fixPort par n idx c :: fixPorts par n (idx + 1) cs

/-- Some port from index `idx` on needs a correction. -/
def portsBad (par : Config.Params) (n : BitVec 8) : Nat → List PortConfig → Bool
  | _, [] => false
  | idx, c :: cs => portBad par n idx c || portsBad par n (idx + 1) cs

/-- Validate(cfg): the corrected configuration, and ok, which is 1 when nothing was corrected (R132, R133).
PORT_LIMIT is the number of ports of the configuration. -/
def validate (par : Config.Params) (cfg : FullConfig) : FullConfig × Bool :=
  let n := clampCount cfg.ports.length cfg.n
  ({ cfg with n := n, ports := fixPorts par n 0 cfg.ports },
   !(countBad cfg.ports.length cfg.n || portsBad par n 0 cfg.ports))

/-! ### Moving configurations -/

/-- PadRule(p): the pad is an output for an enabled port with a GPIO, else an input (R136). -/
def padRule (c : PortConfig) : Bool := !(c.gpioId == Config.gpioSentinel) && c.en

/-- A corrected configuration comes into force on a port: effective and shadow copies, table, pad, PRESENT (R127, R129). -/
def install (c : PortConfig) (P : Port) : Port :=
  { P with cfg := c, sh := c, table := buildTable c, padOut := padRule c, present := false }

/-- The same on every port. -/
def installAll : List PortConfig → List Port → List Port
  | c :: cs, P :: Ps => install c P :: installAll cs Ps
  | _, Ps => Ps

/-- The whole shadow configuration (R127). -/
def shadowConfig (s : State) : FullConfig := ⟨s.nSh, s.uiSh, s.ports.map Port.sh⟩

/-- The whole effective configuration (R150). -/
def effectiveConfig (s : State) : FullConfig := ⟨s.n, s.ui, s.ports.map Port.cfg⟩

/-- Merge(): present ports from the shadow, the others from the effective copy, the global fields from the shadow
(R131). -/
def merge (s : State) : FullConfig := ⟨s.nSh, s.uiSh, s.ports.map fun P => if P.present then P.sh else P.cfg⟩

/-- G.PRESENT = 0: no port register was written (R129). -/
def omitted (s : State) : Bool := s.ports.all fun P => !P.present

/-- A validated configuration comes into force: effective and shadow copies, tables, pads, PRESENT and ACCEPTED. -/
def putInForce (s : State) (cfg : FullConfig) (accepted : Bool) : State :=
  { s with
    n := cfg.n, nSh := cfg.n, ui := cfg.ui, uiSh := cfg.ui,
    ports := installAll cfg.ports s.ports,
    result := { s.result with accepted := accepted } }

/-- What the first BEGIN does (R127). -/
def beginSetup (s : State) : State :=
  let v := validate s.par (shadowConfig s)
  let t := putInForce s v.1 v.2
  { t with begun := true, ports := t.ports.map fun P => { P with tableValid := true } }

/-- What an APPLY that is performed does (R129). -/
def applyConfig (s : State) : State :=
  let v := validate s.par (merge s)
  putInForce s v.1 (v.2 && !omitted s)

/-- Release(p): the neutral state; the shadow becomes the effective copy and PRESENT[p] is cleared (R146). -/
def release (P : Port) : Port :=
  let c := { P.cfg with en := false, gpioId := Config.gpioSentinel }
  { P with cfg := c, sh := c, padOut := false, present := false }

end Sys2Proof.Machine
end

