-- ==== Sys2Proof/Machine/Commands.lean ====
section
/-! DEFINITION. The host commands: NOP, BEGIN, APPLY, CLRERR, TEARDOWN (40_driver_interface.md R125 to R145), ARM
(42_encoder_engine.md R186) and the illegal command words (40_driver_interface.md R123). Each writes RESULT once (R121);
the order of the tests is that of 60_exceptions.md R250. -/

namespace Sys2Proof.Machine

/-- An illegal command word: RESULT and nothing else (40_driver_interface.md R123). -/
def illegalOutcome (p : PortId) (s : State) : Res := finish s .illegal p

/-- A port command: ILLEGAL for a PORT at or beyond PORT_LIMIT (30_encoding.md R92 (d)). -/
def portCommand (p : PortId) (s : State) (r : Res) : Res := if s.hasPort p then r else illegalOutcome p s

/-- NOP (40_driver_interface.md R125). -/
def execNop (s : State) : Res := finish s .ok 0

/-- BEGIN, once; a second one has no other effect (40_driver_interface.md R127). -/
def execBegin (s : State) : Res := if s.begun then finish s .ok 0 else finish (beginSetup s) .ok 0

/-- Some port is not Idle (40_driver_interface.md R129). -/
def someBusy (s : State) : Bool := s.ports.any fun P => P.state != .idle

/-- APPLY (40_driver_interface.md R129). -/
def execApply (s : State) : Res :=
  if !s.begun then finish s .notBegun 0
  else if someBusy s then finish s .busy 0
  else finish (applyConfig s) .ok 0

/-- An ARM that is performed: the copy, the window to its start bound, the counters, the "start interrupt"
(42_encoder_engine.md R186). -/
def armPort (m : HostMem) (P : Port) : Port :=
  { P with
    stage := hostBytes m P.cfg.src.toNat P.cfg.k.toNat
    cur := 0, rd := 0, fill := 0, next := 0, remain := P.cfg.k, lookups := 0,
    starved := false, txdoneFlag := false, txdoneIe := false, lwmIe := true,
    state := .frameStart, corrupt := false }

/-- SRC + K > HOST_MEM_SIZE, the sum without wrap (20_memory.md R71). -/
def beyondHostMem (par : Config.Params) (c : PortConfig) : Bool :=
  decide (par.hostMemSize < c.src.toNat + c.k.toNat)

/-- A re-arm is contention: ERR_BUSY (42_encoder_engine.md R185). -/
def markBusy (P : Port) : Port := { P with errBusy := true }

/-- ARM p (42_encoder_engine.md R186, R185). -/
def execArm (p : PortId) (s : State) : Res :=
  portCommand p s
    (if !s.begun then finish s .notBegun p
     else if (s.port p).state != .idle then finish (s.setPort p (markBusy (s.port p))) .busy p
     else if !(s.port p).cfg.en then finish s .disabled p
     else if beyondHostMem s.par (s.port p).cfg then finish s .addrErr p
     else finish (s.setPort p (armPort s.hostMem (s.port p))) .ok p)

/-- The sticky diagnostics cleared (40_driver_interface.md R140). -/
def clearSticky (P : Port) : Port := { P with errBusy := false, errUnderrun := false, done := false }

/-- CLRERR p (40_driver_interface.md R140). -/
def execClrerr (p : PortId) (s : State) : Res :=
  portCommand p s (finish (s.setPort p (clearSticky (s.port p))) .ok p)

/-- A TEARDOWN waits for the frame in flight: TD_PENDING (40_driver_interface.md R145). -/
def deferTeardown (P : Port) : Port := { P with tdPending := true }

/-- TEARDOWN p (40_driver_interface.md R145). -/
def execTeardown (p : PortId) (s : State) : Res :=
  portCommand p s
    (if !s.begun then finish s .notBegun p
     else if (s.port p).state != .idle then finish (s.setPort p (deferTeardown (s.port p))) .deferred p
     else finish (s.setPort p (release (s.port p))) .ok p)

/-- ILLEGAL_CMD, first row (40_driver_interface.md R123). -/
def execIllegalCmd (w : Word) (s : State) : Res := illegalOutcome (cmdPort w) s

/-- ILLEGAL_CMD, second row (40_driver_interface.md R123). -/
def execIllegalCmdHigh (w : Word) (s : State) : Res := illegalOutcome (cmdPort w) s

/-- ExecuteCommand(DATA) (40_driver_interface.md R121). -/
def executeCommand (data : Word) (s : State) : Res :=
  match commandOf data with
  | .nop => execNop s
  | .begin => execBegin s
  | .apply => execApply s
  | .arm p => execArm p s
  | .clrerr p => execClrerr p s
  | .teardown p => execTeardown p s
  | .illegal w => execIllegalCmd w s
  | .illegalHigh w => execIllegalCmdHigh w s

end Sys2Proof.Machine
end

