-- ==== Sys2Proof/Machine/Operands.lean ====
section
/-! DEFINITION. The operand forms: the register an OFFSET names (10_state.md R50 to R59), the value it reads
(40_driver_interface.md R122) and the shadow fields a write sets (R120). -/

namespace Sys2Proof.Machine

/-- The configuration registers of a port bank, in the order of their offsets (10_state.md R52). -/
inductive CfgReg where
  | pctrl
  | pgpio
  | pt0
  | pt1
  | prst
  | plat
  | pnslots
  | psrc
  deriving DecidableEq, Repr

/-- The status registers of a port bank, in the order of their offsets (10_state.md R53). -/
inductive StatReg where
  | pstatus
  | premain
  | pwinpos
  | pfill
  | pframes
  | plookups
  | pnext
  deriving DecidableEq, Repr

/-- A register of the map (10_state.md R51 to R59), or a reserved offset (R50). -/
inductive Reg where
  /-- NAME0 to NAME3 -/
  | name (i : Nat)
  | count
  | updateInterval
  | cmd
  | result
  | present
  | irqStatus
  | gstatus
  | cfg (p : PortId) (r : CfgReg)
  | stat (p : PortId) (r : StatReg)
  /-- TABLE[p][v][j] -/
  | table (p : PortId) (v : BitVec 2) (j : Bool)
  /-- Symbol RAM word i -/
  | sym (i : Nat)
  | reserved
  deriving DecidableEq, Repr

/-- The global bank by word number (10_state.md R51). -/
def globalReg : Nat → Reg
  | 0 => .name 0
  | 1 => .name 1
  | 2 => .name 2
  | 3 => .name 3
  | 4 => .count
  | 5 => .updateInterval
  | 6 => .cmd
  | 7 => .result
  | 8 => .present
  | 9 => .irqStatus
  | 10 => .gstatus
  | _ => .reserved

/-- A port bank by word number (10_state.md R52, R53). -/
def bankReg (p : PortId) : Nat → Reg
  | 0 => .cfg p .pctrl
  | 1 => .cfg p .pgpio
  | 2 => .cfg p .pt0
  | 3 => .cfg p .pt1
  | 4 => .cfg p .prst
  | 5 => .cfg p .plat
  | 6 => .cfg p .pnslots
  | 7 => .cfg p .psrc
  | 8 => .stat p .pstatus
  | 9 => .stat p .premain
  | 10 => .stat p .pwinpos
  | 11 => .stat p .pfill
  | 12 => .stat p .pframes
  | 13 => .stat p .plookups
  | 14 => .stat p .pnext
  | _ => .reserved

/-- The port banks, `o` from their start: bank p at 0x40 * p; those of ports the machine does not have are reserved
(10_state.md R52 to R54). -/
def portReg (limit o : Nat) : Reg :=
  if o / 0x40 < limit then bankReg (BitVec.ofNat 4 (o / 0x40)) (o % 0x40 / 4) else .reserved

/-- The table readback, `o` from its start: TABLE[p][v][j] at 0x20 * p + 4 * (2 * v + j) (10_state.md R58). -/
def tableReg (limit o : Nat) : Reg :=
  if o / 0x20 < limit then
    .table (BitVec.ofNat 4 (o / 0x20)) (BitVec.ofNat 2 (o % 0x20 / 8)) (decide (o % 8 / 4 = 1))
  else .reserved

/-- The register at an offset, on a machine of `limit` ports with windows of `w` words (10_state.md R51 to R59). -/
def regAt (limit w : Nat) (offset : Word) : Reg :=
  if offset.toNat < 0x100 then globalReg (offset.toNat / 4)
  else if offset.toNat < 0x500 then portReg limit (offset.toNat - 0x100)
  else if offset.toNat < 0x800 then .reserved
  else if offset.toNat < 0xA00 then tableReg limit (offset.toNat - 0x800)
  else if offset.toNat < 0x1000 then .reserved
  else if offset.toNat < 0x1000 + 4 * (limit * w) then .sym ((offset.toNat - 0x1000) / 4)
  else .reserved

/-- The register at an offset of this machine. -/
def State.reg (s : State) (offset : Word) : Reg := regAt s.ports.length s.par.w offset

/-- TABLE[v] (10_state.md R45). -/
def tableEntry (t : SymTable) (v : BitVec 2) : Entry :=
  if v = 0 then t.e0 else if v = 1 then t.e1 else if v = 2 then t.e2 else t.e3

/-- Byte i of DRIVER_NAME, NUL-padded (10_state.md R51). -/
def nameByte (par : Config.Params) (i : Nat) : Byte := (par.driverName[i]?).getD 0

/-- NAME i: byte 4 i in bits [7:0] (10_state.md R51, 20_memory.md R75). -/
def nameWord (par : Config.Params) (i : Nat) : Word :=
  nameByte par (4 * i + 3) ++ nameByte par (4 * i + 2) ++ nameByte par (4 * i + 1) ++ nameByte par (4 * i)

/-- A configuration register's word, from the effective fields, reserved bits 0 (10_state.md R52). -/
def cfgWord (c : PortConfig) : CfgReg → Word
  | .pctrl => 0#29 ++ BitVec.ofBool c.doneIe ++ BitVec.ofBool c.inv ++ BitVec.ofBool c.en
  | .pgpio => 0#24 ++ c.gpioId
  | .pt0 => 0#1 ++ c.t0l ++ 0#1 ++ c.t0h
  | .pt1 => 0#1 ++ c.t1l ++ 0#1 ++ c.t1h
  | .prst => 0#8 ++ c.resetCount ++ 0#1 ++ c.resetDur
  | .plat => 0#8 ++ c.latchCount ++ 0#1 ++ c.latchDur
  | .pnslots => 0#16 ++ c.k
  | .psrc => c.src

/-- The fields a write of a configuration register sets, reserved bits dropped (40_driver_interface.md R120). -/
def cfgWrite (c : PortConfig) (r : CfgReg) (data : Word) : PortConfig :=
  match r with
  | .pctrl => { c with en := data.getLsbD 0, inv := data.getLsbD 1, doneIe := data.getLsbD 2 }
  | .pgpio => { c with gpioId := data.extractLsb' 0 8 }
  | .pt0 => { c with t0h := data.extractLsb' 0 15, t0l := data.extractLsb' 16 15 }
  | .pt1 => { c with t1h := data.extractLsb' 0 15, t1l := data.extractLsb' 16 15 }
  | .prst => { c with resetDur := data.extractLsb' 0 15, resetCount := data.extractLsb' 16 8 }
  | .plat => { c with latchDur := data.extractLsb' 0 15, latchCount := data.extractLsb' 16 8 }
  | .pnslots => { c with k := data.extractLsb' 0 16 }
  | .psrc => { c with src := data }

/-- A status register's word (10_state.md R53). -/
def statWord (P : Port) : StatReg → Word
  | .pstatus => pstatusWord P
  | .premain => 0#16 ++ P.remain
  | .pwinpos => P.rd ++ P.cur
  | .pfill => 0#16 ++ P.fill
  | .pframes => P.frames
  | .plookups => P.lookups
  | .pnext => 0#16 ++ P.next

/-- The value a read of a register returns (40_driver_interface.md R122): a TABLE word while TABLE_VALID = 0 and a
symbol RAM word never written are free (10_state.md R58, R59; log entry 7). -/
def readReg (s : State) : Reg → Word
  | .name i => nameWord s.par i
  | .count => 0#24 ++ s.n
  | .updateInterval => s.ui
  | .cmd => 0
  | .result => resultWord s.result
  | .present => presentWord s
  | .irqStatus => irqStatusWord s
  | .gstatus => gstatusWord s
  | .cfg p r => cfgWord (s.port p).cfg r
  | .stat p r => statWord (s.port p) r
  | .table p v j =>
    if (s.port p).tableValid then
      (if j then (tableEntry (s.port p).table v).w1 else (tableEntry (s.port p).table v).w0)
    else Config.freeWord s.draws
  | .sym i => symValue s i
  | .reserved => 0

/-- What a write of a configuration register does to its port (40_driver_interface.md R120). -/
def shadowWrite (r : CfgReg) (data : Word) (P : Port) : Port := { P with sh := cfgWrite P.sh r data, present := true }

/-- A write of a port's configuration register: its shadow fields and its PRESENT bit (40_driver_interface.md R120). -/
def writeCfg (s : State) (p : PortId) (r : CfgReg) (data : Word) : State :=
  s.setPort p (shadowWrite r data (s.port p))

end Sys2Proof.Machine
end

