-- ==== Sys2Proof/Machine/Bus.lean ====
section
/-! DEFINITION. The host register accesses HOST_WR and HOST_RD (40_driver_interface.md R120, R122). -/

namespace Sys2Proof.Machine

/-- The write of an aligned HOST_WR (40_driver_interface.md R120); read-only and reserved registers ignore it
(10_state.md R50). -/
def writeReg (s : State) (data : Word) : Reg → Res
  | .count => .next { s with nSh := data.extractLsb' 0 8 }
  | .updateInterval => .next { s with uiSh := data }
  | .cmd => executeCommand data s
  | .cfg p r => .next (writeCfg s p r data)
  | .name _ => .next s
  | .result => .next s
  | .present => .next s
  | .irqStatus => .next s
  | .gstatus => .next s
  | .stat _ _ => .next s
  | .table _ _ _ => .next s
  | .sym _ => .next s
  | .reserved => .next s

/-- HOST_WR (40_driver_interface.md R120); a misaligned one is refused (20_memory.md R77). -/
def execHostWr (offset data : Word) (s : State) : Res :=
  if aligned offset then writeReg s data (s.reg offset) else .refused .misaligned

/-- HOST_RD: DATA is the register's value, and nothing else changes (40_driver_interface.md R122, 20_memory.md R79); a
misaligned one is refused (R77). -/
def execHostRd (offset : Word) (s : State) : Res :=
  if aligned offset then .next { s with busData := readReg s (s.reg offset) } else .refused .misaligned

end Sys2Proof.Machine
end

