-- ==== Sys2Proof/Machine/Filler.lean ====
section
/-! DEFINITION. The filler activations (42_encoder_engine.md R192 to R210) and the table lookup and byte encoding they use
(41_symbol_table.md R164, R165). -/

namespace Sys2Proof.Machine

/-- Lookup(p, v) counts itself, modulo 2^32 (41_symbol_table.md R164). -/
def countLookup (P : Port) : Port := { P with lookups := P.lookups + 1 }

/-- One 2-bit group: the Lookup, then the PutSym of the entry's two words (41_symbol_table.md R165). -/
def encodeGroup (p : PortId) (v : BitVec 2) (s : State) : Except Fault State :=
  putSyms p [(tableEntry (s.port p).table v).w0, (tableEntry (s.port p).table v).w1]
    (s.setPort p (countLookup (s.port p)))

/-- Groups in turn. -/
def encodeGroups (p : PortId) : List (BitVec 2) → State → Except Fault State
  | [], s => .ok s
  | v :: vs, s =>
    match encodeGroup p v s with
    | .ok s' => encodeGroups p vs s'
    | .error r => .error r

/-- The 2-bit groups of a byte, bits [7:6] first (41_symbol_table.md R165). -/
def byteGroups (b : Byte) : List (BitVec 2) :=
  [b.extractLsb' 6 2, b.extractLsb' 4 2, b.extractLsb' 2 2, b.extractLsb' 0 2]

/-- EncodeByte(p, b) (41_symbol_table.md R165). -/
def encodeByte (p : PortId) (b : Byte) (s : State) : Except Fault State := encodeGroups p (byteGroups b) s

/-- STAGE[p][NEXT]; a byte the last ARM did not write is free (20_memory.md R72; log entry 9). -/
def stagedByte (s : State) (p : PortId) : Byte :=
  ((s.port p).stage[(s.port p).next.toNat]?).getD (Config.freeStageByte s.draws (s.port p).next.toNat)

/-- NEXT and REMAIN after one byte (42_encoder_engine.md R196). -/
def countByte (P : Port) : Port := { P with next := P.next + 1, remain := P.remain - 1 }

/-- `n` staged bytes through the table into the window (42_encoder_engine.md R196). -/
def refillBytes (p : PortId) : Nat → State → Except Fault State
  | 0, s => .ok s
  | n + 1, s =>
    match encodeByte p (stagedByte s p) s with
    | .ok s' => refillBytes p n (s'.setPort p (countByte (s'.port p)))
    | .error r => .error r

/-- n = min(REMAIN, (W - FILL) div 8) (42_encoder_engine.md R196). -/
def refillCount (par : Config.Params) (P : Port) : Nat := min P.remain.toNat ((par.w - P.fill.toNat) / 8)

/-- A word whose halves both last `d` at OFF(p): a reset or a latch word (42_encoder_engine.md R183). -/
def quietWord (c : PortConfig) (d : Dur) : Word := symWord (offLevel c) d (offLevel c) d

/-- The end marker: both durations 0, both levels OFF(p) (30_encoding.md R96). -/
def endMarker (c : PortConfig) : Word := quietWord c 0

/-- The reset words of a frame (42_encoder_engine.md R192). -/
def resetWords (c : PortConfig) : List Word := List.replicate c.resetCount.toNat (quietWord c c.resetDur)

/-- The ending sequence of a frame: latch words, then the end marker (42_encoder_engine.md R203). -/
def endingWords (c : PortConfig) : List Word :=
  List.replicate c.latchCount.toNat (quietWord c c.latchDur) ++ [endMarker c]

/-- The last writes of an activation, if its window writes did not fault. -/
def closeActivation (p : PortId) (f : Port → Port) : Except Fault State → Except Fault State
  | .ok s => .ok (s.setPort p (activationEnd (f (s.port p))))
  | .error r => .error r

/-- FILL_START's state change: Streaming, and the transmitter starts (42_encoder_engine.md R192). -/
def startFrame (P : Port) : Port := { P with state := .streaming, txActive := true }

/-- FILL_END's state change: FrameEnd, waiting for transmission complete (42_encoder_engine.md R203). -/
def endFrame (P : Port) : Port := { P with lwmIe := false, txdoneIe := true, state := .frameEnd }

/-- The frame is over: Idle, counted modulo 2^32, DONE (42_encoder_engine.md R207). -/
def completeFrame (P : Port) : Port :=
  { P with txdoneIe := false, txdoneFlag := false, state := .idle, frames := P.frames + 1, done := true }

/-- FILL_DONE's state change: the frame is over, and a deferred TEARDOWN is completed (42_encoder_engine.md R207). -/
def frameDone (P : Port) : Port :=
  if P.tdPending then release { completeFrame P with tdPending := false } else completeFrame P

/-- FILL_START (42_encoder_engine.md R192). -/
def execFillStart (p : PortId) (s : State) : Res :=
  onAgent s p (answer (closeActivation p startFrame (putSyms p (resetWords (s.port p).cfg) s)))

/-- FILL_REFILL (42_encoder_engine.md R196). -/
def execFillRefill (p : PortId) (s : State) : Res :=
  onAgent s p (answer (closeActivation p id (refillBytes p (refillCount s.par (s.port p)) s)))

/-- FILL_END (42_encoder_engine.md R203). -/
def execFillEnd (p : PortId) (s : State) : Res :=
  onAgent s p (answer (closeActivation p endFrame (putSyms p (endingWords (s.port p).cfg) s)))

/-- FILL_DONE (42_encoder_engine.md R207). -/
def execFillDone (p : PortId) (s : State) : Res := onAgent s p (answer (closeActivation p frameDone (.ok s)))

/-- A spurious cause: Fault(SPURIOUS_CAUSE), no state changed (42_encoder_engine.md R210). -/
def execSpuriousCause (_p : PortId) (_s : State) : Res := .fault .spuriousCause

end Sys2Proof.Machine
end

