-- ==== Sys2Proof/Machine/Transmitter.lean ====
section
/-! DEFINITION. The transmitter's executions (43_transmitter.md R230 to R236). Each of SYM_END, SYM_HALF_END and SYM_EMIT
includes the Consume of the word it executes (R230, R231); the word's fields are the operands. -/

namespace Sys2Proof.Machine

/-- An append to TRACE[p] (10_state.md R48). -/
def emit (es : List TraceEntry) (P : Port) : Port := { P with trace := P.trace ++ es }

/-- The end of transmission: the transmitter stops and TXDONE_FLAG is set (43_transmitter.md R232, R234). -/
def stopTx (P : Port) : Port := { P with txActive := false, txdoneFlag := true }

/-- SYM_UNDERRUN's writes (43_transmitter.md R236), with the step's latency count (R238). -/
def underrun (par : Config.Params) (P : Port) : Port :=
  { P with
    starved := true, errUnderrun := true, corrupt := true, lat := latAfterTx par P,
    trace := P.trace ++ [.underrun] }

/-- A transmitter step: the port consumes its word, then `f` acts on it (43_transmitter.md R230). -/
def txStep (p : PortId) (f : Port → Port) (s : State) : Res :=
  onAgent s p (.next (s.setPort p (f (consume s.par (s.port p)))))

/-- SYM_END (43_transmitter.md R232): the levels and DUR1 of the word are ignored. -/
def execSymEnd (p : PortId) (s : State) : Res := txStep p stopTx s

/-- SYM_HALF_END (43_transmitter.md R234). -/
def execSymHalfEnd (p : PortId) (lvl0 : Bool) (dur0 : Dur) (s : State) : Res :=
  txStep p (fun P => stopTx (emit [.pulse lvl0 dur0] P)) s

/-- SYM_EMIT (43_transmitter.md R233). -/
def execSymEmit (p : PortId) (lvl1 : Bool) (dur1 : Dur) (lvl0 : Bool) (dur0 : Dur) (s : State) : Res :=
  txStep p (emit [.pulse lvl0 dur0, .pulse lvl1 dur1]) s

/-- SYM_UNDERRUN (43_transmitter.md R236). -/
def execSymUnderrun (p : PortId) (s : State) : Res :=
  onAgent s p (.next (s.setPort p (underrun s.par (s.port p))))

end Sys2Proof.Machine
end

