-- ==== Sys2Proof/Machine/Dispatch.lean ====
section
/-! DEFINITION. One arm per instruction, each a direct call of its meaning. -/

namespace Sys2Proof.Machine

def exec (i : Instr) (s : State) : Host.Outcome State Fault Refusal :=
  match i with
  | .hostWr offset data => Sys2Proof.Machine.execHostWr offset data s
  | .hostRd offset => Sys2Proof.Machine.execHostRd offset s
  | .nop => Sys2Proof.Machine.execNop s
  | .begin => Sys2Proof.Machine.execBegin s
  | .apply => Sys2Proof.Machine.execApply s
  | .arm p => Sys2Proof.Machine.execArm p s
  | .clrerr p => Sys2Proof.Machine.execClrerr p s
  | .teardown p => Sys2Proof.Machine.execTeardown p s
  | .illegalCmd w => Sys2Proof.Machine.execIllegalCmd w s
  | .illegalCmdHigh w => Sys2Proof.Machine.execIllegalCmdHigh w s
  | .symEnd p _ _ _ => Sys2Proof.Machine.execSymEnd p s
  | .symHalfEnd p _ lvl0 dur0 => Sys2Proof.Machine.execSymHalfEnd p lvl0 dur0 s
  | .symEmit p lvl1 dur1 lvl0 dur0 => Sys2Proof.Machine.execSymEmit p lvl1 dur1 lvl0 dur0 s
  | .symUnderrun p => Sys2Proof.Machine.execSymUnderrun p s
  | .fillStart p _ => Sys2Proof.Machine.execFillStart p s
  | .fillRefill p => Sys2Proof.Machine.execFillRefill p s
  | .fillEnd p => Sys2Proof.Machine.execFillEnd p s
  | .fillDone p _ => Sys2Proof.Machine.execFillDone p s
  | .spuriousCause p _ => Sys2Proof.Machine.execSpuriousCause p s

end Sys2Proof.Machine
end

