-- ==== Sys2Proof/Machine/Fetch.lean ====
section
/-! DEFINITION. What the next step is: the turn at the front of the agenda, and the instruction, if any, its agent then
executes (00_scope.md R3, 20_memory.md R80, 42_encoder_engine.md R190, 43_transmitter.md R230). -/

namespace Sys2Proof.Machine

/-- What a step is to do. -/
inductive Fetched where
  /-- An agent executes an instruction. -/
  | instr (i : Instr)
  /-- No turn is left: nothing happens (70_reset_and_hazards.md R281; log entry 5). -/
  | wait
  /-- The agent whose turn it is has no step: its turn passes (log entry 3). -/
  | pass
  /-- The host access is no instruction (20_memory.md R77). -/
  | reject (r : Refusal)
  /-- A byte of host memory is written (20_memory.md R82). -/
  | memWrite (addr : Word) (b : Byte)
  /-- Reset (70_reset_and_hazards.md R280). -/
  | reset
  deriving DecidableEq, Repr

/-- The refusal of an encoded form that is no instruction (20_memory.md R77). -/
def rejection : Reject → Refusal
  | .accessWidth => .accessWidth
  | .misaligned => .misaligned

/-- A decoded form as a step. -/
def fetchCode (c : Code) : Fetched :=
  match decode c with
  | .ok i => .instr i
  | .error r => .reject (rejection r)

/-- OFFSET is the address minus BASE, modulo 2^32 (30_encoding.md R89; log entry 23). -/
def busOffset (par : Config.Params) (addr : Word) : Word := addr - par.base

/-- The filler's step (42_encoder_engine.md R190), as the event vector it forms; `none`: it has no step. -/
def fillerCode (s : State) (p : PortId) : Option Code :=
  if s.hasPort p then (activationEntry s.par (s.port p)).map (Code.event p) else none

/-- The transmitter's step (43_transmitter.md R230), as the word at RD or the empty window; `none`: it has no step, or
SERVICE_BOUND does not admit one before the filler's (R238; log entry 4). -/
def transmitterCode (s : State) (p : PortId) : Option Code :=
  if s.hasPort p && txEnabled (s.port p) && txAdmitted s.par (s.port p) then
    (if (s.port p).fill = 0 then some (.drained p) else some (.sym p (symRead s p (s.port p).rd.toNat)))
  else none

/-- An agent's step if it has one, else its turn passes. -/
def fetchAgent : Option Code → Fetched
  | some c => fetchCode c
  | none => .pass

/-- What the next step is to do. -/
def fetch (s : State) : Fetched :=
  match s.agenda with
  | [] => .wait
  | .host we bytes addr data :: _ => fetchCode (.bus we bytes (busOffset s.par addr) data)
  | .filler p :: _ => fetchAgent (fillerCode s p)
  | .transmitter p :: _ => fetchAgent (transmitterCode s p)
  | .memWrite addr b :: _ => .memWrite addr b
  | .reset :: _ => .reset

/-- The turn at the front is taken, and the next draw is a fresh one. -/
def State.advance (s : State) : State := { s with agenda := s.agenda.tail, draws := s.draws + 1 }

/-- A write of a byte of host memory (20_memory.md R70); beyond HOST_MEM_SIZE there is none (log entry 12). -/
def memWriteStep (addr : Word) (b : Byte) (s : State) : Res :=
  if addr.toNat < s.par.hostMemSize then .next { s with hostMem := cellWrite s.hostMem addr.toNat b }
  else .fault .noHostMemory

/-- The reset event: every field of 10_state.md at its reset value, the memories of PXENC without a value again; the
parameters, host memory and what belongs to the world outside stay (R280; log entry 19). -/
def resetStep (s : State) : State :=
  { State.resetOf s.ports.length s.par with
    hostMem := s.hostMem, agenda := s.agenda, busData := s.busData, draws := s.draws }

/-- The state code of an event vector as a state (10_state.md R40). -/
def stateOfCode (c : BitVec 2) : FrameState :=
  if c = 0 then .idle else if c = 1 then .frameStart else if c = 2 then .streaming else .frameEnd

/-- A port whose transmitter finds a word at RD, with no filler cause pending. -/
def withWord (P : Port) : Port :=
  { P with txActive := true, fill := (if P.fill = 0 then 1 else P.fill), lwmIe := false, txdoneIe := false, lat := 0 }

/-- A port whose transmitter finds its window empty, with no filler cause pending. -/
def withoutWord (P : Port) : Port :=
  { P with txActive := true, fill := 0, starved := false, lwmIe := false, txdoneIe := false, lat := 0 }

/-- A port whose REMAIN gives an event vector its Z; a byte that remains is a staged zero byte. -/
def withZ (z : Bool) (P : Port) : Port :=
  if z then { P with remain := 0 }
  else if P.remain = 0 then { P with remain := 1, next := 0, stage := [0] } else P

/-- A port whose filler forms the event vector `e`. -/
def withEvent (e : BitVec 4) (P : Port) : Port :=
  withZ (eventZ e)
    { P with
      state := stateOfCode (eventState e), lwmIe := !eventCause e, txdoneIe := eventCause e,
      txdoneFlag := eventCause e, fill := (if eventCause e then P.fill else 0) }

/-- The state a step runs `c` in as the machine's next: what the agent whose form it is must find (log entry 14). -/
def presentCode (s : State) : Code → State
  | .bus we bytes offset data =>
    { s with agenda := .host we bytes (offset + s.par.base) data :: s.agenda }
  | .sym p w =>
    { (s.setPort p (withWord (s.port p))).setSym (symIndex s.par.w p (s.port p).rd.toNat) w with
      agenda := .transmitter p :: s.agenda }
  | .drained p => { s.setPort p (withoutWord (s.port p)) with agenda := .transmitter p :: s.agenda }
  | .event p e => { s.setPort p (withEvent e (s.port p)) with agenda := .filler p :: s.agenda }

end Sys2Proof.Machine
end

