-- ==== Sys2Proof/Machine/Step.lean ====
section
/-! DEFINITION. One step of the machine: the turn at the front of the agenda. -/

namespace Sys2Proof.Machine

/-- One step (20_memory.md R79, R80): every step is atomic and reads the state left by the one before it. -/
def step (s : State) : Host.Outcome State Fault Refusal :=
  match fetch s with
  | .instr i => exec i s.advance
  | .wait => .next s
  | .pass => .next s.advance
  | .reject r => .refused r
  | .memWrite addr b => memWriteStep addr b s.advance
  | .reset => .next (resetStep s.advance)

/-- `s` with the instruction of a row of spec/opcode_table.json, of bits `w`, where the next step finds it
(log entry 14); `s` itself where the bits are no encoded form. -/
def State.withFetchWord (s : State) (nbits w : Nat) : State :=
  match tableCode nbits w with
  | some c => presentCode s c
  | none => s

end Sys2Proof.Machine
end

