-- ==== Sys2Proof/Machine/Pad.lean ====
section
/-! DEFINITION. What a port's pin shows while no Pulse is being emitted (10_state.md R48). The pulses themselves are the
entries of TRACE; the model has no time, so the pin during a pulse is that entry and no field (R300). -/

namespace Sys2Proof.Machine

/-- What a pin shows. -/
inductive PinView where
  /-- The pad is an input and drives nothing. -/
  | input
  /-- The pad drives this level, 1 = high. -/
  | drives (level : Bool)
  /-- The spec leaves it open: no claim (93_implementation_defined.md). -/
  | unspecified
  deriving DecidableEq, Repr

/-- Another port than the one at index `p` has this GPIO_ID. -/
def gpioElsewhere (p : Nat) (g : Byte) : Nat → List Port → Bool
  | _, [] => false
  | i, P :: Ps => (decide (i ≠ p) && P.cfg.gpioId == g) || gpioElsewhere p g (i + 1) Ps

/-- Another port is configured with the same GPIO (60_exceptions.md R269). -/
def gpioShared (s : State) (p : PortId) : Bool :=
  (s.port p).cfg.gpioId != Config.gpioSentinel && gpioElsewhere p.toNat (s.port p).cfg.gpioId 0 s.ports

/-- The pin of port p at rest: unspecified for a shared GPIO (60_exceptions.md R269) and from an Underrun entry to the
end of the frame (43_transmitter.md R236), OFF(p) on an output pad, nothing on an input pad (10_state.md R48; log
entry 18). DESIGN CHOICE, log entry 27: R236 does not say which step is "the end of the frame", and R232 has the pin
drive OFF(p) after SYM_END; in a frame with an Underrun the answer is unspecified until FILL_DONE makes STATE Idle. -/
def padAtRest (s : State) (p : PortId) : PinView :=
  let P := s.port p
  if gpioShared s p then .unspecified
  else if !P.padOut then .input
  else if P.corrupt && P.state != .idle then .unspecified
  else .drives (offLevel P.cfg)

end Sys2Proof.Machine
end

