-- ==== Sys2Proof/WellFormed.lean ====
section
/-! DEFINITION. Which terms of `Instr` some encoded form stands for (30_encoding.md R89 to R100). -/

namespace Sys2Proof

/-- The checks of spec/30_encoding.md on an instruction: OFFSET aligned, and a HOST_WR to CMD is the command its DATA
carries (R89, R90); an illegal command word is illegal (R92) and lies in its row; the durations of a symbol word
are those of its class (R97); a spurious vector selects no activation (R100). A PORT at or beyond PORT_LIMIT is
well formed: the machine answers it with ILLEGAL (40_driver_interface.md R123). -/
def Instr.wf : Instr → Bool
  | .hostWr offset _ => aligned offset && offset != cmdOffset
  | .hostRd offset => aligned offset
  | .nop => true
  | .begin => true
  | .apply => true
  | .arm _ => true
  | .clrerr _ => true
  | .teardown _ => true
  | .illegalCmd w => illegalForm w && !(cmdOp w).msb
  | .illegalCmdHigh w => (cmdOp w).msb
  | .symEnd _ _ _ _ => true
  | .symHalfEnd _ _ _ dur0 => dur0 != 0
  | .symEmit _ _ dur1 _ dur0 => dur0 != 0 && dur1 != 0
  | .symUnderrun _ => true
  | .fillStart _ _ => true
  | .fillRefill _ => true
  | .fillEnd _ => true
  | .fillDone _ _ => true
  | .spuriousCause _ e => !selectsFill e

end Sys2Proof
end

