-- ==== Sys2Proof/Safety.lean ====
section
/-! DEFINITION. What holds of the machine in every safe run: the invariants of 10_state.md R49 with what they need to be
kept by a step, the canonical form of the memories, and the no-underrun condition of 43_transmitter.md R240. -/

namespace Sys2Proof.Machine

/-- The state's memories are in canonical form and lie in their address spaces (20_memory.md R70, R74). -/
abbrev State.memoryWf (s : State) : Prop :=
  cellsWf s.symRam = true ∧ cellsBelow (s.ports.length * s.par.w) s.symRam = true ∧
  cellsWf s.hostMem = true ∧ cellsBelow s.par.hostMemSize s.hostMem = true

/-- The word at place `k` of the port's unconsumed words, the oldest at place 0 (43_transmitter.md R231). -/
def pendingWord (s : State) (p : PortId) (k : Nat) : Option Word :=
  cellRead s.symRam (symIndex s.par.w p (((s.port p).rd.toNat + k) % s.par.w))

/-- A word the transmitter emits whole: neither duration is 0 (30_encoding.md R97). -/
def emitsWhole (w : Word) : Bool := symDur0 w != 0 && symDur1 w != 0

/-- The window positions (10_state.md R49, invariant 1). -/
structure WindowInv (w : Nat) (P : Port) : Prop where
  cur_lt : P.cur.toNat < w
  rd_lt : P.rd.toNat < w
  fill_le : P.fill.toNat ≤ w
  cur_eq : P.cur.toNat = (P.rd.toNat + P.fill.toNat) % w

/-- The frame counters (10_state.md R49, invariant 2; 42_encoder_engine.md R214): K_armed is the number of bytes the
last ARM staged. -/
structure CounterInv (P : Port) : Prop where
  staged_lt : P.stage.length < 2 ^ 16
  next_remain : P.next.toNat + P.remain.toNat = P.stage.length
  lookups_eq : P.lookups.toNat = 4 * P.next.toNat
  all_encoded : P.state = .idle ∨ P.state = .frameEnd → P.remain = 0

/-- What each state of the frame machine implies of the enables and the transmitter (10_state.md R49, invariants 3 to 8). -/
structure EngineInv (begun : Bool) (P : Port) : Prop where
  one_enable : ¬(P.lwmIe = true ∧ P.txdoneIe = true)
  idle : P.state = .idle →
    P.lwmIe = false ∧ P.txdoneIe = false ∧ P.txActive = false ∧ P.txdoneFlag = false ∧ P.fill = 0
  frameStart : P.state = .frameStart → P.lwmIe = true ∧ P.txActive = false ∧ P.txdoneFlag = false ∧ P.fill = 0
  streaming : P.state = .streaming → P.lwmIe = true ∧ P.txActive = true ∧ P.txdoneFlag = false
  frameEnd : P.state = .frameEnd → P.txdoneIe = true ∧ P.lwmIe = false ∧
    (P.txActive = true → P.txdoneFlag = false ∧ P.fill ≠ 0) ∧
    (P.txActive = false → P.txdoneFlag = true ∧ P.fill = 0)
  busy_begun : P.state ≠ .idle → P.cfg.en = true ∧ begun = true
  teardown_busy : P.tdPending = true → P.state ≠ .idle

/-- The port's configuration is a fixed point of Validate, and from BEGIN on its table and pad are those of its
configuration (40_driver_interface.md R134, R136; 41_symbol_table.md R162). -/
structure ConfigInv (par : Config.Params) (n : BitVec 8) (begun : Bool) (idx : Nat) (P : Port) : Prop where
  valid : portBad par n idx P.cfg = false
  built : begun = true → P.tableValid = true ∧ P.table = buildTable P.cfg ∧ P.padOut = padRule P.cfg

/-- The port's unconsumed words: while Streaming each is emitted whole; in FrameEnd each but the last is, and the last
is the end marker (30_encoding.md R97, 42_encoder_engine.md R183). -/
structure WordsInv (s : State) (p : PortId) : Prop where
  streaming : (s.port p).state = .streaming →
    ∀ k < (s.port p).fill.toNat, (pendingWord s p k).any emitsWhole = true
  frameEnd : (s.port p).state = .frameEnd → (s.port p).txActive = true →
    (∀ k < (s.port p).fill.toNat - 1, (pendingWord s p k).any emitsWhole = true) ∧
    pendingWord s p ((s.port p).fill.toNat - 1) = some (endMarker (s.port p).cfg)

/-- One port's invariant. -/
structure PortInv (s : State) (p : PortId) : Prop where
  window : WindowInv s.par.w (s.port p)
  counters : CounterInv (s.port p)
  engine : EngineInv s.begun (s.port p)
  config : ConfigInv s.par s.n s.begun p.toNat (s.port p)
  words : WordsInv s p
  /-- An interleaving is admitted only if LAT[p] ≤ SERVICE_BOUND always (43_transmitter.md R238). -/
  latency : ∀ bound, s.par.serviceBound = some bound → (s.port p).lat ≤ bound

/-- The invariant of the machine (10_state.md R49), with the parameters' constraints (00_scope.md R6) and the memories'
canonical form. -/
structure Inv (s : State) : Prop where
  params : s.par.wf
  portLimit : 1 ≤ s.ports.length ∧ s.ports.length ≤ 16
  count : countBad s.ports.length s.n = false
  memory : s.memoryWf
  ports : ∀ p : PortId, p.toNat < s.ports.length → PortInv s p

/-- F_min(p) (43_transmitter.md R240): R(p) is infinity where RESET_COUNT exceeds LWM. -/
def fMin (par : Config.Params) (P : Port) : Nat :=
  if P.cfg.resetCount.toNat ≤ par.lwm then min (min par.lwm 8) P.cfg.resetCount.toNat else min par.lwm 8

/-- The latency count and the window together never fall below F_min(p) while the low-watermark cause is pending in
Streaming (43_transmitter.md R240). -/
def LatencyInv (s : State) : Prop :=
  ∀ p : PortId, p.toNat < s.ports.length → (s.port p).state = .streaming →
    lwmPending s.par (s.port p) = true → fMin s.par (s.port p) ≤ (s.port p).fill.toNat + (s.port p).lat

/-! ### Words for statements -/

/-- The value a host read at an offset returns now (40_driver_interface.md R122). -/
def hostRead (s : State) (offset : Nat) : Word := readReg s (s.reg (BitVec.ofNat 32 offset))

/-- The offsets a host write acts on: COUNT, UPDATE_INTERVAL, CMD and the configuration registers of the machine's ports
(40_driver_interface.md R120). -/
abbrev writableOffset (limit o : Nat) : Prop :=
  o = 0x010 ∨ o = 0x014 ∨ o = 0x018 ∨
  (0x100 ≤ o ∧ o < 0x500 ∧ (o - 0x100) / 0x40 < limit ∧ (o - 0x100) % 0x40 < 0x20)

/-- The reserved offsets of 10_state.md R51 to R59, on a machine of `limit` ports with windows of `w` words. -/
abbrev reservedOffset (limit w o : Nat) : Prop :=
  (0x02C ≤ o ∧ o < 0x100) ∨
  (0x100 ≤ o ∧ o < 0x500 ∧ (limit ≤ (o - 0x100) / 0x40 ∨ (o - 0x100) % 0x40 = 0x3C)) ∨
  (0x500 ≤ o ∧ o < 0x800) ∨
  (0x800 ≤ o ∧ o < 0xA00 ∧ limit ≤ (o - 0x800) / 0x20) ∨
  (0xA00 ≤ o ∧ o < 0x1000) ∨
  0x1000 + 4 * (limit * w) ≤ o

/-- Instructions one after another, stopping at the first that does not answer a next state. -/
def execAll : List Instr → State → Res
  | [], s => .next s
  | i :: is, s =>
    match exec i s with
    | .next t => execAll is t
    | .fault r => .fault r
    | .refused r => .refused r

/-- The offsets of every configuration register: COUNT, UPDATE_INTERVAL and each port's eight (40_driver_interface.md
R150). -/
def configOffsets (limit : Nat) : List Nat :=
  0x010 :: 0x014 :: (List.range limit).flatMap fun p => (List.range 8).map fun r => 0x100 + 0x40 * p + 4 * r

/-- An answer with its next state changed. -/
def mapNext (f : State → State) : Res → Res
  | .next s => .next (f s)
  | .fault r => .fault r
  | .refused r => .refused r

/-- The index of the word after `i` in a window of `w` words, as numbers (42_encoder_engine.md R182). -/
def placeAfter (w : Nat) (i : Pos) (k : Nat) : Nat := (i.toNat + k) % w

end Sys2Proof.Machine
end

