-- ==== Sys2Proof/Certificates/Slice0/Obligations.lean ====
section
/-! DEFINITION. The statements for the provers. Each docstring names the rules of spec/ it rests on. -/

open Sys2Proof Sys2Proof.Machine

/-! ### Encodings -/

/-- 30_encoding.md R89 to R100: the decoder reads back every well-formed instruction from its encoding. -/
def Obligations.DecodeUndoesEncode : Prop := ∀ i : Instr, i.wf = true → decode (encode i) = .ok i

/-- 30_encoding.md R92, R97, R100: whatever the decoder answers is well formed. -/
def Obligations.DecodedInstructionsAreWellFormed : Prop := ∀ c i, decode c = .ok i → i.wf = true

/-- 30_encoding.md R89 to R100: the encoder gives back every encoded form from the instruction decoded from it, but that a
HOST_RD carries no DATA. So no bit of a command word, a symbol word or an event vector is dropped. -/
def Obligations.EncodeUndoesDecode : Prop :=
  ∀ c i, decode c = .ok i →
    encode i = c ∨ ∃ offset data, c = .bus false 4 offset data ∧ encode i = .bus false 4 offset 0

/-- Words written out from 30_encoding.md R89 to R106 and 95_test_vectors.md V2, V5, V6. -/
def Obligations.SpecWordsDecode : Prop :=
  decode (.bus true 4 0x104#32 0x00000002#32) = .ok (.hostWr 0x104#32 2#32) ∧
  decode (.bus false 4 0x01C#32 0#32) = .ok (.hostRd 0x01C#32) ∧
  decode (.bus true 4 0x018#32 0x00000103#32) = .ok (.arm 1) ∧
  decode (.bus true 4 0x018#32 0x00000013#32) = .ok (.illegalCmd 0x13#32) ∧
  decode (.bus true 4 0x018#32 0x0000000F#32) = .ok (.illegalCmdHigh 0xF#32) ∧
  decode (.sym 0 0x80008000#32) = .ok (.symEnd 0 true 0 true) ∧
  decode (.sym 0 0x00008005#32) = .ok (.symHalfEnd 0 false true 5) ∧
  decode (.sym 0 0x00048008#32) = .ok (.symEmit 0 false 4 true 8) ∧
  decode (.event 0 0b0010#4) = .ok (.fillStart 0 false) ∧
  decode (.event 0 0b0100#4) = .ok (.fillRefill 0) ∧
  decode (.event 0 0b0101#4) = .ok (.fillEnd 0) ∧
  decode (.event 0 0b1111#4) = .ok (.fillDone 0 true) ∧
  decode (.event 0 0b1010#4) = .ok (.spuriousCause 0 0b1010#4)

/-! ### The step -/

/-- A step runs the instruction decoded from what the agent whose turn it is presents: the host's access (30_encoding.md R89),
a filler's event vector (R100), the word at a transmitter's RD or no word (43_transmitter.md R230). Around exec, a step
takes the turn off the agenda and counts a draw (log entries 2, 7). -/
def Obligations.StepRunsTheDecodedInstruction : Prop :=
  ∀ (s : State) (rest : List Turn) (i : Instr),
    (∀ we bytes addr data, s.agenda = .host we bytes addr data :: rest →
      decode (.bus we bytes (addr - s.par.base) data) = .ok i →
      step s = exec i { s with agenda := rest, draws := s.draws + 1 }) ∧
    (∀ p e, s.agenda = .filler p :: rest → p.toNat < s.ports.length →
      activationEntry s.par (s.port p) = some e → decode (.event p e) = .ok i →
      step s = exec i { s with agenda := rest, draws := s.draws + 1 }) ∧
    (∀ p, s.agenda = .transmitter p :: rest → p.toNat < s.ports.length → txEnabled (s.port p) = true →
      txAdmitted s.par (s.port p) = true → (s.port p).fill ≠ 0 →
      decode (.sym p (symRead s p (s.port p).rd.toNat)) = .ok i →
      step s = exec i { s with agenda := rest, draws := s.draws + 1 }) ∧
    (∀ p, s.agenda = .transmitter p :: rest → p.toNat < s.ports.length → txEnabled (s.port p) = true →
      txAdmitted s.par (s.port p) = true → (s.port p).fill = 0 → decode (.drained p) = .ok i →
      step s = exec i { s with agenda := rest, draws := s.draws + 1 })

/-- An agent with no step lets its turn pass, and with no turn left nothing happens: the model's choice (log entries 3, 5),
for what 42_encoder_engine.md R190, 43_transmitter.md R230 and 70_reset_and_hazards.md R281 call having no step. -/
def Obligations.AgentWithoutAStepPasses : Prop :=
  ∀ (s : State) (p : PortId) (rest : List Turn),
    (s.agenda = [] → step s = .next s) ∧
    (s.agenda = .filler p :: rest →
      (s.port p).lwmIe = false ∨ s.par.lwm < (s.port p).fill.toNat →
      (s.port p).txdoneIe = false ∨ (s.port p).txdoneFlag = false →
      step s = .next { s with agenda := rest, draws := s.draws + 1 }) ∧
    (s.agenda = .transmitter p :: rest →
      (s.port p).txActive = false ∨ ((s.port p).fill = 0 ∧ (s.port p).starved = true) →
      step s = .next { s with agenda := rest, draws := s.draws + 1 })

/-- 42_encoder_engine.md R190, 30_encoding.md R100: what a filler's turn fetches, from the port's fields. -/
def Obligations.FillerDispatchFollowsTheVector : Prop :=
  ∀ (s : State) (p : PortId) (rest : List Turn), s.agenda = .filler p :: rest → p.toNat < s.ports.length →
    (((s.port p).txdoneIe && (s.port p).txdoneFlag) = true →
      ((s.port p).state = .frameEnd → fetch s = .instr (.fillDone p ((s.port p).remain == 0))) ∧
      ((s.port p).state ≠ .frameEnd → (∃ e, fetch s = .instr (.spuriousCause p e)) ∧
        step s = .fault .spuriousCause)) ∧
    (((s.port p).txdoneIe && (s.port p).txdoneFlag) = false →
      (s.port p).lwmIe = true → (s.port p).fill.toNat ≤ s.par.lwm →
      ((s.port p).state = .frameStart → fetch s = .instr (.fillStart p ((s.port p).remain == 0))) ∧
      ((s.port p).state = .streaming → (s.port p).remain ≠ 0 → fetch s = .instr (.fillRefill p)) ∧
      ((s.port p).state = .streaming → (s.port p).remain = 0 → fetch s = .instr (.fillEnd p)) ∧
      ((s.port p).state = .idle ∨ (s.port p).state = .frameEnd →
        (∃ e, fetch s = .instr (.spuriousCause p e)) ∧ step s = .fault .spuriousCause)) ∧
    (((s.port p).txdoneIe && (s.port p).txdoneFlag) = false →
      (s.port p).lwmIe = false ∨ s.par.lwm < (s.port p).fill.toNat → fetch s = .pass)

/-- 43_transmitter.md R230, R231, 30_encoding.md R97: what a transmitter's turn fetches, where SERVICE_BOUND admits it. -/
def Obligations.TransmitterDispatchFollowsTheWord : Prop :=
  ∀ (s : State) (p : PortId) (rest : List Turn) (w : Word), s.agenda = .transmitter p :: rest →
    p.toNat < s.ports.length → txAdmitted s.par (s.port p) = true →
    ((s.port p).txActive = false → fetch s = .pass) ∧
    ((s.port p).txActive = true → (s.port p).fill = 0 → (s.port p).starved = true → fetch s = .pass) ∧
    ((s.port p).txActive = true → (s.port p).fill = 0 → (s.port p).starved = false →
      fetch s = .instr (.symUnderrun p)) ∧
    ((s.port p).txActive = true → (s.port p).fill ≠ 0 →
      cellRead s.symRam (p.toNat * s.par.w + (s.port p).rd.toNat) = some w →
      fetch s = .instr
        (if w.toNat % 2 ^ 15 = 0 then .symEnd p (w.getLsbD 31) (w.extractLsb' 16 15) (w.getLsbD 15)
         else if w.toNat / 2 ^ 16 % 2 ^ 15 = 0 then
          .symHalfEnd p (w.getLsbD 31) (w.getLsbD 15) (w.extractLsb' 0 15)
         else .symEmit p (w.getLsbD 31) (w.extractLsb' 16 15) (w.getLsbD 15) (w.extractLsb' 0 15)))

/-- 43_transmitter.md R238: a transmitter step that would take LAT beyond SERVICE_BOUND is not admitted; that its turn then
passes is the model's choice (log entry 4). -/
def Obligations.ServiceBoundHoldsTheTransmitter : Prop :=
  ∀ (s : State) (p : PortId) (rest : List Turn) (bound : Nat), s.agenda = .transmitter p :: rest →
    p.toNat < s.ports.length → s.par.serviceBound = some bound →
    bound < (if (s.port p).txdoneIe && (s.port p).txdoneFlag ||
        (s.port p).lwmIe && decide ((s.port p).fill.toNat ≤ s.par.lwm) then (s.port p).lat + 1
      else (s.port p).lat) →
    step s = .next { s with agenda := rest, draws := s.draws + 1 }

/-- 20_memory.md R77: any access that is not 32 bits wide at an offset divisible by 4 is refused. -/
def Obligations.NarrowOrMisalignedAccessIsRefused : Prop :=
  ∀ (s : State),
    (∀ we bytes addr data rest, s.agenda = .host we bytes addr data :: rest →
      (bytes ≠ 4 → step s = .refused .accessWidth) ∧
      (bytes = 4 → (addr - s.par.base).toNat % 4 ≠ 0 → step s = .refused .misaligned)) ∧
    ∀ offset data : Word, offset.toNat % 4 ≠ 0 →
      exec (.hostWr offset data) s = .refused .misaligned ∧ exec (.hostRd offset) s = .refused .misaligned

/-- 20_memory.md R70, R82: a collaborator's write changes one byte of host memory; that one beyond HOST_MEM_SIZE faults is
the model's choice (log entry 12). -/
def Obligations.CollaboratorWritesOneByte : Prop :=
  ∀ (s : State) (addr : Word) (b : Byte) (rest : List Turn), s.agenda = .memWrite addr b :: rest →
    (addr.toNat < s.par.hostMemSize → ∃ t, step s = .next t ∧
      t = { s with agenda := rest, draws := s.draws + 1, hostMem := t.hostMem } ∧
      ∀ a, hostByte t.hostMem a = if a = addr.toNat then b else hostByte s.hostMem a) ∧
    (s.par.hostMemSize ≤ addr.toNat → step s = .fault .noHostMemory)

/-! ### Host accesses -/

/-- 40_driver_interface.md R122, 20_memory.md R79: an aligned HOST_RD completes in every state, returns the register's value
and changes nothing else. -/
def Obligations.HostReadHasNoSideEffect : Prop :=
  ∀ (s : State) (offset : Word), offset.toNat % 4 = 0 →
    exec (.hostRd offset) s = .next { s with busData := hostRead s offset.toNat }

/-- 10_state.md R51: the global bank's words. -/
def Obligations.GlobalRegistersRead : Prop :=
  ∀ s : State,
    (∀ i < 16, (hostRead s (4 * (i / 4))).toNat / 2 ^ (8 * (i % 4)) % 2 ^ 8 =
      ((s.par.driverName[i]?).getD 0).toNat) ∧
    (hostRead s 0x010).toNat = s.n.toNat ∧ hostRead s 0x014 = s.ui ∧ hostRead s 0x018 = 0 ∧
    (hostRead s 0x01C).toNat =
      (match s.result.code with
        | .ok => 0 | .busy => 1 | .disabled => 2 | .illegal => 3 | .deferred => 4 | .notBegun => 5 | .addrErr => 6) +
      2 ^ 8 * s.result.port.toNat + 2 ^ 16 * s.result.accepted.toNat ∧
    (∀ p : PortId, p.toNat < s.ports.length →
      (hostRead s 0x020).getLsbD p.toNat = (s.port p).present ∧
      (hostRead s 0x024).getLsbD p.toNat = ((s.port p).done && (s.port p).cfg.doneIe)) ∧
    (∀ k, s.ports.length ≤ k → (hostRead s 0x020).getLsbD k = false ∧ (hostRead s 0x024).getLsbD k = false) ∧
    (hostRead s 0x028).toNat =
      s.begun.toNat + 2 * (s.ports.any fun P => P.done && P.cfg.doneIe).toNat

/-- 10_state.md R52: a configuration register reads the effective fields, reserved bits 0. -/
def Obligations.ConfigurationRegistersReadEffective : Prop :=
  ∀ (s : State) (p : PortId) (c : PortConfig), p.toNat < s.ports.length → (s.port p).cfg = c →
    (hostRead s (0x100 + 0x40 * p.toNat)).toNat = c.en.toNat + 2 * c.inv.toNat + 4 * c.doneIe.toNat ∧
    (hostRead s (0x104 + 0x40 * p.toNat)).toNat = c.gpioId.toNat ∧
    (hostRead s (0x108 + 0x40 * p.toNat)).toNat = c.t0h.toNat + 2 ^ 16 * c.t0l.toNat ∧
    (hostRead s (0x10C + 0x40 * p.toNat)).toNat = c.t1h.toNat + 2 ^ 16 * c.t1l.toNat ∧
    (hostRead s (0x110 + 0x40 * p.toNat)).toNat = c.resetDur.toNat + 2 ^ 16 * c.resetCount.toNat ∧
    (hostRead s (0x114 + 0x40 * p.toNat)).toNat = c.latchDur.toNat + 2 ^ 16 * c.latchCount.toNat ∧
    (hostRead s (0x118 + 0x40 * p.toNat)).toNat = c.k.toNat ∧
    hostRead s (0x11C + 0x40 * p.toNat) = c.src

/-- 10_state.md R53, R40: the status registers' words. -/
def Obligations.StatusRegistersRead : Prop :=
  ∀ (s : State) (p : PortId) (P : Port), p.toNat < s.ports.length → s.port p = P →
    (hostRead s (0x120 + 0x40 * p.toNat)).toNat =
      (match P.state with | .idle => 0 | .frameStart => 1 | .streaming => 2 | .frameEnd => 3) +
      4 * P.txActive.toNat + 8 * P.tableValid.toNat + 16 * P.lwmIe.toNat + 32 * P.txdoneIe.toNat +
      64 * P.tdPending.toNat + 128 * P.padOut.toNat + 256 * P.errBusy.toNat + 512 * P.errUnderrun.toNat +
      1024 * P.done.toNat + 2048 * P.starved.toNat + 4096 * P.txdoneFlag.toNat ∧
    (hostRead s (0x124 + 0x40 * p.toNat)).toNat = P.remain.toNat ∧
    (hostRead s (0x128 + 0x40 * p.toNat)).toNat = P.cur.toNat + 2 ^ 16 * P.rd.toNat ∧
    (hostRead s (0x12C + 0x40 * p.toNat)).toNat = P.fill.toNat ∧
    hostRead s (0x130 + 0x40 * p.toNat) = P.frames ∧
    hostRead s (0x134 + 0x40 * p.toNat) = P.lookups ∧
    (hostRead s (0x138 + 0x40 * p.toNat)).toNat = P.next.toNat ∧
    hostRead s (0x13C + 0x40 * p.toNat) = 0

/-- 10_state.md R58, R59: table and symbol RAM readback; a TABLE word while TABLE_VALID = 0 and a symbol RAM word never
written are free values, whatever the count of draws (log entry 7). -/
def Obligations.TableAndSymbolRamReadBack : Prop :=
  ∀ (s : State), s.ports.length ≤ 16 → s.par.w ≤ 65535 →
    (∀ (p : PortId) (v : BitVec 2), p.toNat < s.ports.length →
      hostRead s (0x800 + 0x20 * p.toNat + 8 * v.toNat) =
        (if (s.port p).tableValid then (tableEntry (s.port p).table v).w0 else Config.freeWord s.draws) ∧
      hostRead s (0x804 + 0x20 * p.toNat + 8 * v.toNat) =
        (if (s.port p).tableValid then (tableEntry (s.port p).table v).w1 else Config.freeWord s.draws)) ∧
    ∀ i, i < s.ports.length * s.par.w →
      hostRead s (0x1000 + 4 * i) = (cellRead s.symRam i).getD (Config.freeWord s.draws)

/-- 10_state.md R50 to R59: a reserved offset reads 0, and a write to an offset that is no writable register (reserved or
read-only) is ignored. -/
def Obligations.ReservedReadsZeroAndIgnoredWrites : Prop :=
  ∀ (s : State) (offset data : Word), offset.toNat % 4 = 0 →
    (reservedOffset s.ports.length s.par.w offset.toNat → hostRead s offset.toNat = 0) ∧
    (¬writableOffset s.ports.length offset.toNat → exec (.hostWr offset data) s = .next s)

/-- 40_driver_interface.md R120: a write of a port's configuration register completes in every state, sets that
register's shadow fields, reserved bits dropped, and PRESENT, and nothing else. -/
def Obligations.ConfigurationWritesSetShadow : Prop :=
  ∀ (s : State) (p : PortId) (data : Word) (P : Port), p.toNat < s.ports.length → s.port p = P →
    exec (.hostWr (BitVec.ofNat 32 (0x100 + 0x40 * p.toNat)) data) s = .next (s.setPort p { P with
      present := true
      sh := { P.sh with en := data.getLsbD 0, inv := data.getLsbD 1, doneIe := data.getLsbD 2 } }) ∧
    exec (.hostWr (BitVec.ofNat 32 (0x104 + 0x40 * p.toNat)) data) s = .next (s.setPort p { P with
      present := true, sh := { P.sh with gpioId := BitVec.ofNat 8 data.toNat } }) ∧
    exec (.hostWr (BitVec.ofNat 32 (0x108 + 0x40 * p.toNat)) data) s = .next (s.setPort p { P with
      present := true
      sh := { P.sh with t0h := BitVec.ofNat 15 data.toNat, t0l := BitVec.ofNat 15 (data.toNat / 2 ^ 16) } }) ∧
    exec (.hostWr (BitVec.ofNat 32 (0x10C + 0x40 * p.toNat)) data) s = .next (s.setPort p { P with
      present := true
      sh := { P.sh with t1h := BitVec.ofNat 15 data.toNat, t1l := BitVec.ofNat 15 (data.toNat / 2 ^ 16) } }) ∧
    exec (.hostWr (BitVec.ofNat 32 (0x110 + 0x40 * p.toNat)) data) s = .next (s.setPort p { P with
      present := true
      sh := { P.sh with
        resetDur := BitVec.ofNat 15 data.toNat, resetCount := BitVec.ofNat 8 (data.toNat / 2 ^ 16) } }) ∧
    exec (.hostWr (BitVec.ofNat 32 (0x114 + 0x40 * p.toNat)) data) s = .next (s.setPort p { P with
      present := true
      sh := { P.sh with
        latchDur := BitVec.ofNat 15 data.toNat, latchCount := BitVec.ofNat 8 (data.toNat / 2 ^ 16) } }) ∧
    exec (.hostWr (BitVec.ofNat 32 (0x118 + 0x40 * p.toNat)) data) s = .next (s.setPort p { P with
      present := true, sh := { P.sh with k := BitVec.ofNat 16 data.toNat } }) ∧
    exec (.hostWr (BitVec.ofNat 32 (0x11C + 0x40 * p.toNat)) data) s = .next (s.setPort p { P with
      present := true, sh := { P.sh with src := data } })

/-- 40_driver_interface.md R120: writes of COUNT and UPDATE_INTERVAL set the shadow fields only. -/
def Obligations.GlobalWritesSetShadow : Prop :=
  ∀ (s : State) (data : Word),
    exec (.hostWr 0x010#32 data) s = .next { s with nSh := BitVec.ofNat 8 data.toNat } ∧
    exec (.hostWr 0x014#32 data) s = .next { s with uiSh := data }

/-- 40_driver_interface.md R121, R123, 30_encoding.md R91, R92: a write to CMD runs its command word's command in the same
step, and an illegal word writes RESULT and nothing else. -/
def Obligations.CommandWriteRunsTheCommand : Prop :=
  ∀ (s : State) (w : Word) (op rsv0 port rsv1 : Nat), op = w.toNat % 16 → rsv0 = w.toNat / 2 ^ 4 % 16 →
    port = w.toNat / 2 ^ 8 % 16 → rsv1 = w.toNat / 2 ^ 12 →
    ((6 ≤ op ∨ rsv0 ≠ 0 ∨ rsv1 ≠ 0 ∨ (op ≤ 2 ∧ port ≠ 0) ∨ (3 ≤ op ∧ s.ports.length ≤ port)) →
      exec (.hostWr 0x018#32 w) s =
        .next { s with result := ⟨.illegal, BitVec.ofNat 4 port, s.result.accepted⟩ }) ∧
    (rsv0 = 0 → rsv1 = 0 →
      (op = 0 → port = 0 → exec (.hostWr 0x018#32 w) s = exec .nop s) ∧
      (op = 1 → port = 0 → exec (.hostWr 0x018#32 w) s = exec .begin s) ∧
      (op = 2 → port = 0 → exec (.hostWr 0x018#32 w) s = exec .apply s) ∧
      (op = 3 → port < s.ports.length →
        exec (.hostWr 0x018#32 w) s = exec (.arm (BitVec.ofNat 4 port)) s) ∧
      (op = 4 → port < s.ports.length →
        exec (.hostWr 0x018#32 w) s = exec (.clrerr (BitVec.ofNat 4 port)) s) ∧
      (op = 5 → port < s.ports.length →
        exec (.hostWr 0x018#32 w) s = exec (.teardown (BitVec.ofNat 4 port)) s))

/-! ### Commands -/

/-- 40_driver_interface.md R125: NOP completes in every state and writes RESULT.CODE and RESULT.PORT only. -/
def Obligations.NopWritesResultOnly : Prop :=
  ∀ s : State, exec .nop s = .next { s with result := ⟨.ok, 0, s.result.accepted⟩ }

/-- 40_driver_interface.md R123: both rows of ILLEGAL_CMD complete in every state and write RESULT only. -/
def Obligations.IllegalCommandWritesResultOnly : Prop :=
  ∀ (s : State) (w : Word),
    exec (.illegalCmd w) s =
      .next { s with result := ⟨.illegal, BitVec.ofNat 4 (w.toNat / 2 ^ 8), s.result.accepted⟩ } ∧
    exec (.illegalCmdHigh w) s =
      .next { s with result := ⟨.illegal, BitVec.ofNat 4 (w.toNat / 2 ^ 8), s.result.accepted⟩ }

/-- 40_driver_interface.md R127: the first BEGIN puts the validated shadow configuration in force, builds every table, sets
every pad, clears PRESENT and sets ACCEPTED and BEGUN; a second one only reports OK. It completes in every state. -/
def Obligations.BeginSetsUpOnce : Prop :=
  ∀ s : State,
    (s.begun = true → exec .begin s = .next { s with result := ⟨.ok, 0, s.result.accepted⟩ }) ∧
    (s.begun = false → ∃ t, exec .begin s = .next t ∧
      ∀ cfg ok, validate s.par ⟨s.nSh, s.uiSh, s.ports.map Port.sh⟩ = (cfg, ok) →
        t = { s with
          begun := true, n := cfg.n, nSh := cfg.n, ui := cfg.ui, uiSh := cfg.ui, result := ⟨.ok, 0, ok⟩,
          ports := t.ports } ∧
        t.ports.length = s.ports.length ∧
        ∀ p : PortId, p.toNat < s.ports.length → ∃ c, cfg.ports[p.toNat]? = some c ∧
          t.port p = { s.port p with
            cfg := c, sh := c, table := buildTable c, tableValid := true,
            padOut := (c.en && decide (c.gpioId ≠ 0xFF#8)), present := false })

/-- 40_driver_interface.md R129, R131, R136: APPLY before BEGIN, with a port not Idle, and performed. -/
def Obligations.ApplyPutsTheMergeInForce : Prop :=
  ∀ s : State,
    (s.begun = false → exec .apply s = .next { s with result := ⟨.notBegun, 0, s.result.accepted⟩ }) ∧
    (s.begun = true → (∃ P ∈ s.ports, P.state ≠ .idle) →
      exec .apply s = .next { s with result := ⟨.busy, 0, s.result.accepted⟩ }) ∧
    (s.begun = true → (∀ P ∈ s.ports, P.state = .idle) → ∃ t, exec .apply s = .next t ∧
      ∀ cfg ok,
        validate s.par ⟨s.nSh, s.uiSh, s.ports.map fun P => if P.present then P.sh else P.cfg⟩ = (cfg, ok) →
        t = { s with
          n := cfg.n, nSh := cfg.n, ui := cfg.ui, uiSh := cfg.ui,
          result := ⟨.ok, 0, ok && s.ports.any Port.present⟩, ports := t.ports } ∧
        t.ports.length = s.ports.length ∧
        ∀ p : PortId, p.toNat < s.ports.length → ∃ c, cfg.ports[p.toNat]? = some c ∧
          t.port p = { s.port p with
            cfg := c, sh := c, table := buildTable c,
            padOut := (c.en && decide (c.gpioId ≠ 0xFF#8)), present := false })

/-- 40_driver_interface.md R132, R133: what Validate corrects, field by field, and that it answers ok exactly when nothing
needed a correction. -/
def Obligations.ValidateCorrectsByTheRules : Prop :=
  ∀ (par : Config.Params) (cfg out : FullConfig) (ok : Bool), par.wf → 1 ≤ cfg.ports.length →
    cfg.ports.length ≤ 16 → validate par cfg = (out, ok) →
    out.n.toNat =
      (if 1 ≤ cfg.n.toNat ∧ cfg.n.toNat ≤ cfg.ports.length then cfg.n.toNat else cfg.ports.length) ∧
    out.ui = cfg.ui ∧ out.ports.length = cfg.ports.length ∧ (ok = true ↔ out = cfg) ∧
    ∀ (i : Nat) (c : PortConfig), cfg.ports[i]? = some c → ∃ d, out.ports[i]? = some d ∧
      d.en = (c.en && decide (i < out.n.toNat) && decide (c.gpioId ≠ 0xFF#8)) ∧
      d.inv = c.inv ∧ d.doneIe = c.doneIe ∧ d.gpioId = c.gpioId ∧ d.src = c.src ∧
      d.t0h = (if c.t0h = 0 then par.defaultT0h else c.t0h) ∧
      d.t0l = (if c.t0l = 0 then par.defaultT0l else c.t0l) ∧
      d.t1h = (if c.t1h = 0 then par.defaultT1h else c.t1h) ∧
      d.t1l = (if c.t1l = 0 then par.defaultT1l else c.t1l) ∧
      d.resetDur = (if c.resetDur = 0 then par.defaultResetDur else c.resetDur) ∧
      d.latchDur = (if c.latchDur = 0 then par.defaultLatchDur else c.latchDur) ∧
      d.resetCount.toNat = min c.resetCount.toNat par.w ∧
      d.latchCount.toNat = min c.latchCount.toNat (par.w - par.lwm - 1) ∧
      d.k.toNat = min c.k.toNat par.stageCap

/-- 40_driver_interface.md R134: Validate is idempotent. -/
def Obligations.ValidateIsIdempotent : Prop :=
  ∀ (par : Config.Params) (cfg : FullConfig), par.wf → 1 ≤ cfg.ports.length → cfg.ports.length ≤ 16 →
    validate par (validate par cfg).1 = ((validate par cfg).1, true)

/-- 40_driver_interface.md R150: the configuration registers of one machine, written to another of the same parameters that
has begun and whose ports are all Idle, and applied, give it the same effective configuration, accepted as it is. -/
def Obligations.ConfigurationRoundTrip : Prop :=
  ∀ a b : State, Inv a → Inv b → b.par = a.par → b.ports.length = a.ports.length → b.begun = true →
    (∀ P ∈ b.ports, P.state = .idle) →
    ∃ t, execAll ((configOffsets a.ports.length).map (fun o => .hostWr (BitVec.ofNat 32 o) (hostRead a o)) ++
        [.apply]) b = .next t ∧
      effectiveConfig t = effectiveConfig a ∧ t.result.accepted = true

/-- 41_symbol_table.md R160, R161, 40_driver_interface.md R135: each table entry holds its group's two bit symbols, the more
significant bit's first, each its high time at ON and then its low time at OFF. -/
def Obligations.TableHoldsBitSymbols : Prop :=
  ∀ (c : PortConfig) (v : BitVec 2),
    ∀ x ∈ [((tableEntry (buildTable c) v).w0, v.getLsbD 1), ((tableEntry (buildTable c) v).w1, v.getLsbD 0)],
      x.1.extractLsb' 0 15 = (if x.2 then c.t1h else c.t0h) ∧ x.1.getLsbD 15 = !c.inv ∧
      x.1.extractLsb' 16 15 = (if x.2 then c.t1l else c.t0l) ∧ x.1.getLsbD 31 = c.inv

/-- 40_driver_interface.md R140: CLRERR completes in every state, clears the three sticky bits of its port and writes
RESULT; at or beyond PORT_LIMIT it is ILLEGAL. -/
def Obligations.ClrerrClearsStickyBits : Prop :=
  ∀ (s : State) (p : PortId),
    (p.toNat < s.ports.length → exec (.clrerr p) s = .next { s.setPort p { s.port p with
        errBusy := false, errUnderrun := false, done := false } with
      result := ⟨.ok, p, s.result.accepted⟩ }) ∧
    (s.ports.length ≤ p.toNat → exec (.clrerr p) s = .next { s with result := ⟨.illegal, p, s.result.accepted⟩ })

/-- 40_driver_interface.md R145, R146: TEARDOWN at or beyond PORT_LIMIT, before BEGIN, of a busy port, and performed. -/
def Obligations.TeardownReleasesOrDefers : Prop :=
  (∀ (s : State) (p : PortId), s.ports.length ≤ p.toNat →
    exec (.teardown p) s = .next { s with result := ⟨.illegal, p, s.result.accepted⟩ }) ∧
  ∀ (s : State) (p : PortId) (P : Port), p.toNat < s.ports.length → s.port p = P →
    (s.begun = false → exec (.teardown p) s = .next { s with result := ⟨.notBegun, p, s.result.accepted⟩ }) ∧
    (s.begun = true → P.state ≠ .idle →
      exec (.teardown p) s = .next { s.setPort p { P with tdPending := true } with
        result := ⟨.deferred, p, s.result.accepted⟩ }) ∧
    (s.begun = true → P.state = .idle →
      exec (.teardown p) s = .next { s.setPort p { P with
          cfg := { P.cfg with en := false, gpioId := 0xFF#8 }
          sh := { P.cfg with en := false, gpioId := 0xFF#8 }
          padOut := false, present := false } with
        result := ⟨.ok, p, s.result.accepted⟩ })

/-- 42_encoder_engine.md R185, R186, 60_exceptions.md R250: when ARM does not start a frame, in the order of its tests, and
that it then changes nothing but RESULT and, for a busy port, ERR_BUSY. -/
def Obligations.ArmIsTurnedAwayInOrder : Prop :=
  (∀ (s : State) (p : PortId), s.ports.length ≤ p.toNat →
    exec (.arm p) s = .next { s with result := ⟨.illegal, p, s.result.accepted⟩ }) ∧
  ∀ (s : State) (p : PortId) (P : Port), p.toNat < s.ports.length → s.port p = P →
    (s.begun = false → exec (.arm p) s = .next { s with result := ⟨.notBegun, p, s.result.accepted⟩ }) ∧
    (s.begun = true → P.state ≠ .idle →
      exec (.arm p) s = .next { s.setPort p { P with errBusy := true } with
        result := ⟨.busy, p, s.result.accepted⟩ }) ∧
    (s.begun = true → P.state = .idle → P.cfg.en = false →
      exec (.arm p) s = .next { s with result := ⟨.disabled, p, s.result.accepted⟩ }) ∧
    (s.begun = true → P.state = .idle → P.cfg.en = true → s.par.hostMemSize < P.cfg.src.toNat + P.cfg.k.toNat →
      exec (.arm p) s = .next { s with result := ⟨.addrErr, p, s.result.accepted⟩ })

/-- 42_encoder_engine.md R186, 20_memory.md R71, R72: ARM of an enabled Idle port whose bytes lie in host memory completes,
stages K bytes from SRC on, resets the window and the counters, and enables the low-watermark cause. A byte of host
memory nothing has written is the free initial contents (log entry 10); `corrupt` is the model's ghost (log entry 18). -/
def Obligations.ArmStartsAFrame : Prop :=
  ∀ (s : State) (p : PortId) (P : Port), p.toNat < s.ports.length → s.port p = P → s.begun = true →
    P.state = .idle → P.cfg.en = true → P.cfg.src.toNat + P.cfg.k.toNat ≤ s.par.hostMemSize →
    ∃ staged : List Byte,
      exec (.arm p) s = .next { s.setPort p { P with
          stage := staged, cur := 0, rd := 0, fill := 0, next := 0, remain := P.cfg.k, lookups := 0,
          starved := false, txdoneFlag := false, txdoneIe := false, lwmIe := true, state := .frameStart,
          corrupt := false } with
        result := ⟨.ok, p, s.result.accepted⟩ } ∧
      staged.length = P.cfg.k.toNat ∧
      ∀ i < P.cfg.k.toNat, staged[i]? =
        some ((cellRead s.hostMem (P.cfg.src.toNat + i)).getD (Config.hostMemInitial (P.cfg.src.toNat + i)))

/-! ### Filler activations -/

/-- 42_encoder_engine.md R192, R182: with room in the window FILL_START completes: it writes RESET_COUNT reset words at CUR
on, and no other symbol RAM word, and starts the transmitter. LAT is the ghost of 43_transmitter.md R238. -/
def Obligations.FillStartWritesTheResetWords : Prop :=
  ∀ (s : State) (p : PortId) (z : Bool) (P : Port) (n : Nat), p.toNat < s.ports.length → s.port p = P →
    s.par.w ≤ 65535 → P.cur.toNat < s.par.w → n = P.cfg.resetCount.toNat → P.fill.toNat + n ≤ s.par.w →
    ∃ t, exec (.fillStart p z) s = .next t ∧ t = { s with ports := t.ports, symRam := t.symRam } ∧
      t.ports.length = s.ports.length ∧ (∀ q, q ≠ p → t.port q = s.port q) ∧
      t.port p = { P with
        cur := BitVec.ofNat 16 (placeAfter s.par.w P.cur n), fill := P.fill + BitVec.ofNat 16 n,
        state := .streaming, txActive := true, lat := 0 } ∧
      (∀ k < n, cellRead t.symRam (p.toNat * s.par.w + placeAfter s.par.w P.cur k) =
        some (symWord P.cfg.inv P.cfg.resetDur P.cfg.inv P.cfg.resetDur)) ∧
      ∀ a, (∀ k < n, a ≠ p.toNat * s.par.w + placeAfter s.par.w P.cur k) →
        cellRead t.symRam a = cellRead s.symRam a

/-- 42_encoder_engine.md R196, 41_symbol_table.md R164, R165: FILL_REFILL completes: n staged bytes go out, each as the eight
words of its four 2-bit groups, most significant first, at CUR on, and no other symbol RAM word changes; n is
min(REMAIN, (W - FILL) div 8). -/
def Obligations.FillRefillEncodesStagedBytes : Prop :=
  ∀ (s : State) (p : PortId) (P : Port) (n : Nat), p.toNat < s.ports.length → s.port p = P →
    s.par.w ≤ 65535 → P.cur.toNat < s.par.w → P.fill.toNat ≤ s.par.w → P.stage.length < 2 ^ 16 →
    P.next.toNat + P.remain.toNat = P.stage.length →
    n = min P.remain.toNat ((s.par.w - P.fill.toNat) / 8) →
    ∃ t, exec (.fillRefill p) s = .next t ∧ t = { s with ports := t.ports, symRam := t.symRam } ∧
      t.ports.length = s.ports.length ∧ (∀ q, q ≠ p → t.port q = s.port q) ∧
      t.port p = { P with
        cur := BitVec.ofNat 16 (placeAfter s.par.w P.cur (8 * n)), fill := P.fill + BitVec.ofNat 16 (8 * n),
        next := P.next + BitVec.ofNat 16 n, remain := P.remain - BitVec.ofNat 16 n,
        lookups := P.lookups + BitVec.ofNat 32 (4 * n), lat := 0 } ∧
      (∀ i < n, ∀ g < 4, ∀ b, P.stage[P.next.toNat + i]? = some b →
        cellRead t.symRam (p.toNat * s.par.w + placeAfter s.par.w P.cur (8 * i + 2 * g)) =
          some (tableEntry P.table (b.extractLsb' (6 - 2 * g) 2)).w0 ∧
        cellRead t.symRam (p.toNat * s.par.w + placeAfter s.par.w P.cur (8 * i + 2 * g + 1)) =
          some (tableEntry P.table (b.extractLsb' (6 - 2 * g) 2)).w1) ∧
      ∀ a, (∀ k < 8 * n, a ≠ p.toNat * s.par.w + placeAfter s.par.w P.cur k) →
        cellRead t.symRam a = cellRead s.symRam a

/-- 42_encoder_engine.md R203, 30_encoding.md R96: with room in the window FILL_END completes: it writes LATCH_COUNT latch
words and the end marker at CUR on, and no other symbol RAM word, and moves to FrameEnd. -/
def Obligations.FillEndWritesLatchAndMarker : Prop :=
  ∀ (s : State) (p : PortId) (P : Port) (n : Nat), p.toNat < s.ports.length → s.port p = P →
    s.par.w ≤ 65535 → P.cur.toNat < s.par.w → n = P.cfg.latchCount.toNat → P.fill.toNat + n + 1 ≤ s.par.w →
    ∃ t, exec (.fillEnd p) s = .next t ∧ t = { s with ports := t.ports, symRam := t.symRam } ∧
      t.ports.length = s.ports.length ∧ (∀ q, q ≠ p → t.port q = s.port q) ∧
      t.port p = { P with
        cur := BitVec.ofNat 16 (placeAfter s.par.w P.cur (n + 1)), fill := P.fill + BitVec.ofNat 16 (n + 1),
        lwmIe := false, txdoneIe := true, state := .frameEnd, lat := 0 } ∧
      (∀ k < n, cellRead t.symRam (p.toNat * s.par.w + placeAfter s.par.w P.cur k) =
        some (symWord P.cfg.inv P.cfg.latchDur P.cfg.inv P.cfg.latchDur)) ∧
      cellRead t.symRam (p.toNat * s.par.w + placeAfter s.par.w P.cur n) =
        some (symWord P.cfg.inv 0 P.cfg.inv 0) ∧
      ∀ a, (∀ k < n + 1, a ≠ p.toNat * s.par.w + placeAfter s.par.w P.cur k) →
        cellRead t.symRam a = cellRead s.symRam a

/-- 42_encoder_engine.md R207, 40_driver_interface.md R146: FILL_DONE completes in every state: the frame is counted modulo
2^32, DONE is set, and a deferred TEARDOWN is completed. -/
def Obligations.FillDoneReturnsToIdle : Prop :=
  ∀ (s : State) (p : PortId) (z : Bool) (P : Port), p.toNat < s.ports.length → s.port p = P →
    (P.tdPending = false → exec (.fillDone p z) s = .next (s.setPort p { P with
      txdoneIe := false, txdoneFlag := false, state := .idle, frames := P.frames + 1, done := true, lat := 0 })) ∧
    (P.tdPending = true → exec (.fillDone p z) s = .next (s.setPort p { P with
      txdoneIe := false, txdoneFlag := false, state := .idle, frames := P.frames + 1, done := true,
      tdPending := false, lat := 0, padOut := false, present := false
      cfg := { P.cfg with en := false, gpioId := 0xFF#8 }
      sh := { P.cfg with en := false, gpioId := 0xFF#8 } }))

/-- 42_encoder_engine.md R182: window writes with no room fault with WINDOW_OVERFLOW; FILL_REFILL never does, writing only
what fits. -/
def Obligations.WindowOverflowFaults : Prop :=
  ∀ (s : State) (p : PortId) (P : Port), p.toNat < s.ports.length → s.port p = P → s.par.w ≤ 65535 →
    P.fill.toNat ≤ s.par.w →
    (s.par.w < P.fill.toNat + P.cfg.resetCount.toNat →
      ∀ z, exec (.fillStart p z) s = .fault .windowOverflow) ∧
    (s.par.w < P.fill.toNat + P.cfg.latchCount.toNat + 1 → exec (.fillEnd p) s = .fault .windowOverflow) ∧
    (P.cur.toNat < s.par.w → ∃ t, exec (.fillRefill p) s = .next t)

/-- 42_encoder_engine.md R210: a spurious cause faults, with no state after it, and under the invariant none is fetched. -/
def Obligations.SpuriousCauseFaults : Prop :=
  ∀ (s : State) (p : PortId) (e : BitVec 4),
    exec (.spuriousCause p e) s = .fault .spuriousCause ∧ (Inv s → fetch s ≠ .instr (.spuriousCause p e))

/-! ### The transmitter -/

/-- 43_transmitter.md R233, R231, R238: SYM_EMIT completes in every state: the word is consumed and its two pulses are
appended. -/
def Obligations.SymEmitAppendsTwoPulses : Prop :=
  ∀ (s : State) (p : PortId) (lvl1 lvl0 : Bool) (dur1 dur0 : Dur) (P : Port), p.toNat < s.ports.length →
    s.port p = P →
    exec (.symEmit p lvl1 dur1 lvl0 dur0) s = .next (s.setPort p { P with
      rd := (if P.rd.toNat = s.par.w - 1 then 0 else P.rd + 1), fill := P.fill - 1, starved := false,
      lat := (if causePending s.par P then P.lat + 1 else P.lat),
      trace := P.trace ++ [.pulse lvl0 dur0, .pulse lvl1 dur1] })

/-- 43_transmitter.md R232, R234, R231, R238: SYM_END and SYM_HALF_END complete in every state: the word is consumed, the
transmitter stops and TXDONE_FLAG is set; SYM_HALF_END appends one pulse. -/
def Obligations.EndWordsStopTheTransmitter : Prop :=
  ∀ (s : State) (p : PortId) (lvl1 lvl0 : Bool) (dur1 dur0 : Dur) (P : Port), p.toNat < s.ports.length →
    s.port p = P →
    exec (.symEnd p lvl1 dur1 lvl0) s = .next (s.setPort p { P with
      rd := (if P.rd.toNat = s.par.w - 1 then 0 else P.rd + 1), fill := P.fill - 1, starved := false,
      lat := (if causePending s.par P then P.lat + 1 else P.lat), txActive := false, txdoneFlag := true }) ∧
    exec (.symHalfEnd p lvl1 lvl0 dur0) s = .next (s.setPort p { P with
      rd := (if P.rd.toNat = s.par.w - 1 then 0 else P.rd + 1), fill := P.fill - 1, starved := false,
      lat := (if causePending s.par P then P.lat + 1 else P.lat), txActive := false, txdoneFlag := true,
      trace := P.trace ++ [.pulse lvl0 dur0] })

/-- 43_transmitter.md R236, R238: SYM_UNDERRUN completes in every state: it records Underrun, STARVED and ERR_UNDERRUN;
`corrupt` is the model's ghost (log entry 18). -/
def Obligations.UnderrunIsRecorded : Prop :=
  ∀ (s : State) (p : PortId) (P : Port), p.toNat < s.ports.length → s.port p = P →
    exec (.symUnderrun p) s = .next (s.setPort p { P with
      starved := true, errUnderrun := true, corrupt := true,
      lat := (if causePending s.par P then P.lat + 1 else P.lat), trace := P.trace ++ [.underrun] })

/-- 30_encoding.md R97, R96: under the invariant no SYM_HALF_END is fetched, and a SYM_END only for the end marker of a port
in FrameEnd, which is its last word. -/
def Obligations.TransmissionEndsOnlyAtTheMarker : Prop :=
  ∀ (s : State) (p : PortId) (P : Port), Inv s → s.port p = P →
    (∀ lvl1 lvl0 dur0, fetch s ≠ .instr (.symHalfEnd p lvl1 lvl0 dur0)) ∧
    ∀ lvl1 dur1 lvl0, fetch s = .instr (.symEnd p lvl1 dur1 lvl0) →
      P.state = .frameEnd ∧ P.fill = 1 ∧
      cellRead s.symRam (p.toNat * s.par.w + P.rd.toNat) = some (symWord P.cfg.inv 0 P.cfg.inv 0)

/-- 10_state.md R48, 43_transmitter.md R236, 60_exceptions.md R269: the pin of a port whose GPIO no other port has, or which
has none, while no pulse is emitted: nothing on an input pad; OFF(p) on an output pad outside a frame or while no Underrun was recorded in
it; otherwise open, as it is for a shared GPIO (log entry 18). That it stays open from SYM_END to FILL_DONE of a frame with an
Underrun, where R232 has OFF(p), is the model's choice (log entry 27). -/
def Obligations.PinAtRestShowsOff : Prop :=
  ∀ (s : State) (p : PortId), p.toNat < s.ports.length → s.ports.length ≤ 16 →
    ((s.port p).cfg.gpioId = 0xFF#8 ∨
        (∀ q : PortId, q ≠ p → q.toNat < s.ports.length → (s.port q).cfg.gpioId ≠ (s.port p).cfg.gpioId) →
      ((s.port p).padOut = false → padAtRest s p = .input) ∧
      ((s.port p).padOut = true → (s.port p).state = .idle ∨ (s.port p).corrupt = false →
        padAtRest s p = .drives (s.port p).cfg.inv) ∧
      ((s.port p).padOut = true → (s.port p).state ≠ .idle → (s.port p).corrupt = true →
        padAtRest s p = .unspecified)) ∧
    ((∃ q : PortId, q ≠ p ∧ q.toNat < s.ports.length ∧ (s.port q).cfg.gpioId = (s.port p).cfg.gpioId) →
      (s.port p).cfg.gpioId ≠ 0xFF#8 → padAtRest s p = .unspecified)

/-! ### The whole machine -/

/-- 70_reset_and_hazards.md R280, R281: what reset leaves, for every PORT_LIMIT and every parameter. The tables, the ghosts
and the outside world's fields are not spoken of: their values are the model's choice (log entries 4, 6, 7, 8, 18). -/
def Obligations.ResetLeavesTheSpecsValues : Prop :=
  ∀ (limit : Nat) (par : Config.Params) (s : State), s = State.resetOf limit par → 1 ≤ limit → limit ≤ 16 →
    s.par = par ∧ s.ports.length = limit ∧ s.begun = false ∧ s.n.toNat = limit ∧ s.nSh.toNat = limit ∧ s.ui = 0 ∧
    s.uiSh = 0 ∧ s.result = ⟨.ok, 0, false⟩ ∧ irqLevel s = false ∧
    ∀ (p : PortId) (P : Port), p.toNat < limit → s.port p = P →
      P.present = false ∧ P.sh = P.cfg ∧ P.cfg.en = false ∧ P.cfg.inv = false ∧ P.cfg.doneIe = false ∧
      P.cfg.gpioId = 0xFF#8 ∧ P.cfg.t0h = par.defaultT0h ∧ P.cfg.t0l = par.defaultT0l ∧
      P.cfg.t1h = par.defaultT1h ∧ P.cfg.t1l = par.defaultT1l ∧ P.cfg.resetDur = par.defaultResetDur ∧
      P.cfg.resetCount = par.defaultResetCount ∧ P.cfg.latchDur = par.defaultLatchDur ∧
      P.cfg.latchCount = par.defaultLatchCount ∧ P.cfg.k = 0 ∧ P.cfg.src = 0 ∧ P.state = .idle ∧
      P.txActive = false ∧ P.lwmIe = false ∧ P.txdoneIe = false ∧ P.txdoneFlag = false ∧ P.starved = false ∧
      P.tdPending = false ∧ P.padOut = false ∧ P.errBusy = false ∧ P.errUnderrun = false ∧ P.done = false ∧
      P.tableValid = false ∧ P.cur = 0 ∧ P.rd = 0 ∧ P.fill = 0 ∧ P.remain = 0 ∧ P.next = 0 ∧ P.lookups = 0 ∧
      P.frames = 0 ∧ P.trace = [] ∧ fillerCode s p = none ∧ transmitterCode s p = none

/-- 70_reset_and_hazards.md R280: the reset event gives the reset state; that parameters, host memory, later turns and the
last bus value stay is the model's choice (log entry 19). -/
def Obligations.ResetEventResets : Prop :=
  ∀ (s : State) (rest : List Turn), s.agenda = .reset :: rest →
    step s = .next { State.resetOf s.ports.length s.par with
      hostMem := s.hostMem, agenda := rest, busData := s.busData, draws := s.draws + 1 }

/-- 10_state.md R49: the reset state meets the invariant, for every PORT_LIMIT and every parameter. -/
def Obligations.ResetMeetsTheInvariant : Prop :=
  ∀ (limit : Nat) (par : Config.Params), 1 ≤ limit → limit ≤ 16 → par.wf → Inv (State.resetOf limit par)

/-- 10_state.md R49: every step from a state that meets the invariant gives one that meets it, whatever the turn. -/
def Obligations.StepKeepsTheInvariant : Prop := ∀ s t : State, Inv s → step s = .next t → Inv t

/-- 60_exceptions.md R262, 42_encoder_engine.md R182, R210: under the invariant the model's two faults are unreachable. -/
def Obligations.InvariantExcludesFaults : Prop :=
  ∀ s : State, Inv s → step s ≠ .fault .windowOverflow ∧ step s ≠ .fault .spuriousCause

/-- 20_memory.md R70, R74: every step keeps symbol RAM and host memory in canonical form, from any state at all. -/
def Obligations.StepKeepsMemoriesCanonical : Prop :=
  ∀ s t : State, step s = .next t → cellsWf s.symRam = true → cellsWf s.hostMem = true →
    cellsWf t.symRam = true ∧ cellsWf t.hostMem = true

/-- 00_scope.md R6, 10_state.md R22: no step changes the parameters or the number of ports. -/
def Obligations.ParametersNeverChange : Prop :=
  ∀ s t : State, step s = .next t → t.par = s.par ∧ t.ports.length = s.ports.length

/-- 42_encoder_engine.md R180: a port's state moves only along Idle, FrameStart, Streaming, FrameEnd, Idle, each move by the
instruction the table names, under its condition; FILL_REFILL leaves it in Streaming. Reset is no step (R280). -/
def Obligations.FrameStatesMoveAlongTheCycle : Prop :=
  ∀ (s t : State) (p : PortId), step s = .next t → p.toNat < s.ports.length → fetch s ≠ .reset →
    ((t.port p).state ≠ (s.port p).state →
      ((s.port p).state = .idle ∧ (t.port p).state = .frameStart ∧ fetch s = .instr (.arm p) ∧ s.begun = true ∧
        (s.port p).cfg.en = true ∧ (s.port p).cfg.src.toNat + (s.port p).cfg.k.toNat ≤ s.par.hostMemSize) ∨
      ((s.port p).state = .frameStart ∧ (t.port p).state = .streaming ∧
        (∃ z, fetch s = .instr (.fillStart p z)) ∧ lwmPending s.par (s.port p) = true) ∨
      ((s.port p).state = .streaming ∧ (t.port p).state = .frameEnd ∧ fetch s = .instr (.fillEnd p) ∧
        lwmPending s.par (s.port p) = true ∧ (s.port p).remain = 0) ∨
      ((s.port p).state = .frameEnd ∧ (t.port p).state = .idle ∧
        (∃ z, fetch s = .instr (.fillDone p z)) ∧ txdonePending (s.port p) = true)) ∧
    (fetch s = .instr (.fillRefill p) →
      (s.port p).state = .streaming ∧ (t.port p).state = .streaming ∧ lwmPending s.par (s.port p) = true ∧
        (s.port p).remain ≠ 0)

/-- 42_encoder_engine.md R212: after BEGIN no host access changes a busy port but for its shadow fields, PRESENT, the sticky
bits and TD_PENDING, and none changes symbol RAM. -/
def Obligations.NoHostAccessDisturbsAFrame : Prop :=
  ∀ (s t : State) (we : Bool) (bytes : Nat) (addr data : Word) (rest : List Turn) (p : PortId),
    s.agenda = .host we bytes addr data :: rest → step s = .next t → s.begun = true →
    p.toNat < s.ports.length → (s.port p).state ≠ .idle →
    t.symRam = s.symRam ∧
    t.port p = { s.port p with
      sh := (t.port p).sh, present := (t.port p).present, errBusy := (t.port p).errBusy,
      errUnderrun := (t.port p).errUnderrun, done := (t.port p).done, tdPending := (t.port p).tdPending }

/-- 10_state.md R22, 60_exceptions.md R270: a step of one port's filler or transmitter changes no other port, no global field
and, its cursor being in its window, no other port's window. -/
def Obligations.PortsAreIsolated : Prop :=
  ∀ (s t : State) (p : PortId) (rest : List Turn),
    s.agenda = .filler p :: rest ∨ s.agenda = .transmitter p :: rest → step s = .next t →
    t = { s with ports := t.ports, symRam := t.symRam, agenda := rest, draws := s.draws + 1 } ∧
    (∀ q, q ≠ p → t.port q = s.port q) ∧
    (s.par.w ≤ 65535 → (s.port p).cur.toNat < s.par.w →
      ∀ a, a < p.toNat * s.par.w ∨ (p.toNat + 1) * s.par.w ≤ a → cellRead t.symRam a = cellRead s.symRam a)

/-- 42_encoder_engine.md R218, 70_reset_and_hazards.md R289: what fillers and transmitters do does not depend on host memory:
whatever it holds after the ARM, their steps are the same. -/
def Obligations.FramesIgnoreHostMemory : Prop :=
  ∀ (s : State) (m : HostMem) (p : PortId) (rest : List Turn),
    s.agenda = .filler p :: rest ∨ s.agenda = .transmitter p :: rest →
    step { s with hostMem := m } = mapNext (fun t => { t with hostMem := m }) (step s)

/-- 10_state.md R60: the sticky bits stay set until CLRERR for the port (or reset). -/
def Obligations.StickyBitsStayUntilClrerr : Prop :=
  ∀ (s t : State) (p : PortId), step s = .next t → p.toNat < s.ports.length → fetch s ≠ .reset →
    fetch s ≠ .instr (.clrerr p) →
    ((s.port p).errBusy = true → (t.port p).errBusy = true) ∧
    ((s.port p).errUnderrun = true → (t.port p).errUnderrun = true) ∧
    ((s.port p).done = true → (t.port p).done = true)

/-- 41_symbol_table.md R162: only BEGIN and APPLY (and reset) change a table, and only while every port is Idle. -/
def Obligations.TablesChangeOnlyWhenAllIdle : Prop :=
  ∀ (s t : State) (p : PortId), Inv s → step s = .next t → p.toNat < s.ports.length → fetch s ≠ .reset →
    (t.port p).table ≠ (s.port p).table →
    (fetch s = .instr .begin ∨ fetch s = .instr .apply) ∧
    ∀ q : PortId, q.toNat < s.ports.length → (s.port q).state = .idle

/-- 10_state.md R48: only the transmitter's steps append to TRACE[p], and nothing but reset takes from it. -/
def Obligations.OnlyTheTransmitterAppendsToTrace : Prop :=
  ∀ (s t : State) (p : PortId), step s = .next t → p.toNat < s.ports.length → fetch s ≠ .reset →
    (t.port p).trace ≠ (s.port p).trace →
    (∃ rest, s.agenda = .transmitter p :: rest) ∧ ∃ es, (t.port p).trace = (s.port p).trace ++ es

/-- 42_encoder_engine.md R214: FILL_END and FILL_DONE leave LOOKUPS at four times the bytes the last ARM staged, and so does
every step that leaves the port in FrameEnd or Idle; no step moves the cursor out of the window. -/
def Obligations.FourLookupsPerStagedByte : Prop :=
  ∀ (s t : State) (p : PortId), Inv s → step s = .next t → p.toNat < s.ports.length →
    (fetch s = .instr (.fillEnd p) →
      (t.port p).state = .frameEnd ∧ (t.port p).stage = (s.port p).stage ∧
        (t.port p).lookups.toNat = 4 * (s.port p).stage.length) ∧
    (∀ z, fetch s = .instr (.fillDone p z) →
      (t.port p).state = .idle ∧ (t.port p).stage = (s.port p).stage ∧
        (t.port p).lookups.toNat = 4 * (s.port p).stage.length) ∧
    ((t.port p).state = .frameEnd ∨ (t.port p).state = .idle →
      (t.port p).lookups.toNat = 4 * (t.port p).stage.length) ∧
    (t.port p).cur.toNat < s.par.w

/-- 42_encoder_engine.md R216: under the invariant a port that is not Idle always has an agent with a step. -/
def Obligations.BusyPortHasAStep : Prop :=
  ∀ (s : State) (p : PortId), Inv s → p.toNat < s.ports.length → (s.port p).state ≠ .idle →
    (fillerCode s p).isSome = true ∨ (transmitterCode s p).isSome = true

/-- 43_transmitter.md R240: where SERVICE_BOUND is at most F_min(p), no SYM_UNDERRUN of port p is ever fetched; the condition
this rests on is kept by every step. -/
def Obligations.NoUnderrunWithinServiceBound : Prop :=
  ∀ s : State, Inv s → LatencyInv s →
    (∀ t, step s = .next t → LatencyInv t) ∧
    ∀ (p : PortId) (bound : Nat), p.toNat < s.ports.length → s.par.serviceBound = some bound →
      bound ≤ fMin s.par (s.port p) → fetch s ≠ .instr (.symUnderrun p)
end

