-- ==== Sys2Proof/Laws/Memory.lean ====
section
/-! SUPPORT. The laws of the sparse memories: a read after a write, the canonical form and the bound kept, and the canonical
form decided by the reads alone. -/

namespace Sys2Proof.Machine

variable {α : Type}

/-- A read after a write to the same key gives what was written. -/
@[simp] theorem cellRead_cellWrite_same (m : List (Nat × α)) (a : Nat) (x : α) :
    cellRead (cellWrite m a x) a = some x := by
  induction m with
  | nil => simp [cellWrite, cellRead]
  | cons c rest ih =>
    obtain ⟨k, v⟩ := c
    simp only [cellWrite]
    split
    · simp [cellRead]
    · split
      · simp [cellRead]
      · next h => simp [cellRead, h, ih]

/-- A write leaves every other key alone. -/
theorem cellRead_cellWrite_ne (m : List (Nat × α)) {a b : Nat} (x : α) (h : b ≠ a) :
    cellRead (cellWrite m a x) b = cellRead m b := by
  induction m with
  | nil => simp [cellWrite, cellRead, h]
  | cons c rest ih =>
    obtain ⟨k, v⟩ := c
    simp only [cellWrite]
    split
    · simp [cellRead, h]
    · split
      · next h1 h2 => subst h2; simp [cellRead, h]
      · simp [cellRead, ih]

/-- Both read laws at once. -/
theorem cellRead_cellWrite (m : List (Nat × α)) (a b : Nat) (x : α) :
    cellRead (cellWrite m a x) b = if b = a then some x else cellRead m b := by
  split
  · next h => subst h; simp
  · next h => exact cellRead_cellWrite_ne m x h

/-- The canonical form of a list of cells: its tail has it and its head lies below every key of the tail. -/
theorem cellsWf_cons (k : Nat) (v : α) (m : List (Nat × α)) :
    cellsWf ((k, v) :: m) = true ↔ (∀ c ∈ m.head?, k < c.1) ∧ cellsWf m = true := by
  cases m with
  | nil => simp [cellsWf]
  | cons c rest => obtain ⟨k', v'⟩ := c; simp [cellsWf]

/-- The first key of a memory after a write is the written key or the old first key. -/
theorem cellWrite_head (m : List (Nat × α)) (a : Nat) (x : α) :
    ∀ c ∈ (cellWrite m a x).head?, c.1 = a ∨ ∃ d ∈ m.head?, c.1 = d.1 := by
  cases m with
  | nil => simp [cellWrite]
  | cons d rest =>
    obtain ⟨k, v⟩ := d
    simp only [cellWrite]
    split
    · simp
    · split <;> simp

/-- A write keeps the canonical form. -/
theorem cellsWf_cellWrite (m : List (Nat × α)) (a : Nat) (x : α) (h : cellsWf m = true) :
    cellsWf (cellWrite m a x) = true := by
  induction m with
  | nil => simp [cellWrite, cellsWf]
  | cons c rest ih =>
    obtain ⟨k, v⟩ := c
    have hc := (cellsWf_cons k v rest).1 h
    simp only [cellWrite]
    split
    · next hlt => exact (cellsWf_cons _ _ _).2 ⟨by simpa using hlt, h⟩
    · split
      · next _ heq => subst heq; exact (cellsWf_cons _ _ _).2 ⟨hc.1, hc.2⟩
      · next hlt hne =>
        refine (cellsWf_cons _ _ _).2 ⟨fun c hmem => ?_, ih hc.2⟩
        rcases cellWrite_head rest a x c hmem with h1 | ⟨d, hd, h1⟩
        · omega
        · have := hc.1 d hd; omega

/-- A write below a bound keeps every key below it. -/
theorem cellsBelow_cellWrite (m : List (Nat × α)) {a bound : Nat} (x : α) (ha : a < bound)
    (h : cellsBelow bound m = true) : cellsBelow bound (cellWrite m a x) = true := by
  induction m with
  | nil => simp [cellWrite, cellsBelow, ha]
  | cons c rest ih =>
    obtain ⟨k, v⟩ := c
    simp only [cellsBelow, List.all_cons, Bool.and_eq_true, decide_eq_true_eq] at h ih ⊢
    simp only [cellWrite]
    split
    · simp [ha, h.1, h.2]
    · split
      · simp [ha, h.2]
      · simpa [h.1] using ih h.2

/-- The bytes ARM copies are as many as it is asked for. -/
@[simp] theorem hostBytes_length (m : HostMem) (a n : Nat) : (hostBytes m a n).length = n := by
  induction n generalizing a with
  | zero => rfl
  | succ n ih => simp [hostBytes, ih]

/-- Byte `i` of the copy is host memory byte `a + i` (42_encoder_engine.md R186). -/
theorem hostBytes_getElem (m : HostMem) (a n i : Nat) (h : i < n) :
    (hostBytes m a n)[i]? = some (hostByte m (a + i)) := by
  induction n generalizing a i with
  | zero => omega
  | succ n ih =>
    cases i with
    | zero => simp [hostBytes]
    | succ i =>
      simp only [hostBytes, List.getElem?_cons_succ]
      rw [ih (a + 1) i (by omega)]
      congr 2
      omega

/-- Both memories of the reset state are in canonical form. -/
theorem reset_cellsWf : cellsWf State.reset.symRam = true ∧ cellsWf State.reset.hostMem = true := ⟨rfl, rfl⟩

end Sys2Proof.Machine
end

