-- ==== Sys2Proof/Laws/State.lean ====
section
/-! SUPPORT. One lemma per field per named update of a state or a port, each true by definition, so that no proof unfolds
a record update. -/

namespace Sys2Proof.Machine

/-! ### `State.setPort` -/

@[simp] theorem setPort_par (s : State) (p : PortId) (P : Port) : (s.setPort p P).par = s.par := rfl
@[simp] theorem setPort_begun (s : State) (p : PortId) (P : Port) : (s.setPort p P).begun = s.begun := rfl
@[simp] theorem setPort_n (s : State) (p : PortId) (P : Port) : (s.setPort p P).n = s.n := rfl
@[simp] theorem setPort_nSh (s : State) (p : PortId) (P : Port) : (s.setPort p P).nSh = s.nSh := rfl
@[simp] theorem setPort_ui (s : State) (p : PortId) (P : Port) : (s.setPort p P).ui = s.ui := rfl
@[simp] theorem setPort_uiSh (s : State) (p : PortId) (P : Port) : (s.setPort p P).uiSh = s.uiSh := rfl
@[simp] theorem setPort_result (s : State) (p : PortId) (P : Port) : (s.setPort p P).result = s.result := rfl
@[simp] theorem setPort_ports (s : State) (p : PortId) (P : Port) : (s.setPort p P).ports = s.ports.set p.toNat P := rfl
@[simp] theorem setPort_symRam (s : State) (p : PortId) (P : Port) : (s.setPort p P).symRam = s.symRam := rfl
@[simp] theorem setPort_hostMem (s : State) (p : PortId) (P : Port) : (s.setPort p P).hostMem = s.hostMem := rfl
@[simp] theorem setPort_agenda (s : State) (p : PortId) (P : Port) : (s.setPort p P).agenda = s.agenda := rfl
@[simp] theorem setPort_busData (s : State) (p : PortId) (P : Port) : (s.setPort p P).busData = s.busData := rfl
@[simp] theorem setPort_draws (s : State) (p : PortId) (P : Port) : (s.setPort p P).draws = s.draws := rfl

/-! ### `State.setSym` -/

@[simp] theorem setSym_par (s : State) (i : Nat) (w : Word) : (s.setSym i w).par = s.par := rfl
@[simp] theorem setSym_begun (s : State) (i : Nat) (w : Word) : (s.setSym i w).begun = s.begun := rfl
@[simp] theorem setSym_n (s : State) (i : Nat) (w : Word) : (s.setSym i w).n = s.n := rfl
@[simp] theorem setSym_nSh (s : State) (i : Nat) (w : Word) : (s.setSym i w).nSh = s.nSh := rfl
@[simp] theorem setSym_ui (s : State) (i : Nat) (w : Word) : (s.setSym i w).ui = s.ui := rfl
@[simp] theorem setSym_uiSh (s : State) (i : Nat) (w : Word) : (s.setSym i w).uiSh = s.uiSh := rfl
@[simp] theorem setSym_result (s : State) (i : Nat) (w : Word) : (s.setSym i w).result = s.result := rfl
@[simp] theorem setSym_ports (s : State) (i : Nat) (w : Word) : (s.setSym i w).ports = s.ports := rfl
@[simp] theorem setSym_symRam (s : State) (i : Nat) (w : Word) : (s.setSym i w).symRam = cellWrite s.symRam i w := rfl
@[simp] theorem setSym_hostMem (s : State) (i : Nat) (w : Word) : (s.setSym i w).hostMem = s.hostMem := rfl
@[simp] theorem setSym_agenda (s : State) (i : Nat) (w : Word) : (s.setSym i w).agenda = s.agenda := rfl
@[simp] theorem setSym_busData (s : State) (i : Nat) (w : Word) : (s.setSym i w).busData = s.busData := rfl
@[simp] theorem setSym_draws (s : State) (i : Nat) (w : Word) : (s.setSym i w).draws = s.draws := rfl

/-! ### `State.report` -/

@[simp] theorem report_par (s : State) (c : ResultCode) (p : PortId) : (s.report c p).par = s.par := rfl
@[simp] theorem report_begun (s : State) (c : ResultCode) (p : PortId) : (s.report c p).begun = s.begun := rfl
@[simp] theorem report_n (s : State) (c : ResultCode) (p : PortId) : (s.report c p).n = s.n := rfl
@[simp] theorem report_nSh (s : State) (c : ResultCode) (p : PortId) : (s.report c p).nSh = s.nSh := rfl
@[simp] theorem report_ui (s : State) (c : ResultCode) (p : PortId) : (s.report c p).ui = s.ui := rfl
@[simp] theorem report_uiSh (s : State) (c : ResultCode) (p : PortId) : (s.report c p).uiSh = s.uiSh := rfl
@[simp] theorem report_result (s : State) (c : ResultCode) (p : PortId) : (s.report c p).result = ⟨c, p, s.result.accepted⟩ := rfl
@[simp] theorem report_ports (s : State) (c : ResultCode) (p : PortId) : (s.report c p).ports = s.ports := rfl
@[simp] theorem report_symRam (s : State) (c : ResultCode) (p : PortId) : (s.report c p).symRam = s.symRam := rfl
@[simp] theorem report_hostMem (s : State) (c : ResultCode) (p : PortId) : (s.report c p).hostMem = s.hostMem := rfl
@[simp] theorem report_agenda (s : State) (c : ResultCode) (p : PortId) : (s.report c p).agenda = s.agenda := rfl
@[simp] theorem report_busData (s : State) (c : ResultCode) (p : PortId) : (s.report c p).busData = s.busData := rfl
@[simp] theorem report_draws (s : State) (c : ResultCode) (p : PortId) : (s.report c p).draws = s.draws := rfl

/-! ### `State.advance` -/

@[simp] theorem advance_par (s : State) : (s.advance).par = s.par := rfl
@[simp] theorem advance_begun (s : State) : (s.advance).begun = s.begun := rfl
@[simp] theorem advance_n (s : State) : (s.advance).n = s.n := rfl
@[simp] theorem advance_nSh (s : State) : (s.advance).nSh = s.nSh := rfl
@[simp] theorem advance_ui (s : State) : (s.advance).ui = s.ui := rfl
@[simp] theorem advance_uiSh (s : State) : (s.advance).uiSh = s.uiSh := rfl
@[simp] theorem advance_result (s : State) : (s.advance).result = s.result := rfl
@[simp] theorem advance_ports (s : State) : (s.advance).ports = s.ports := rfl
@[simp] theorem advance_symRam (s : State) : (s.advance).symRam = s.symRam := rfl
@[simp] theorem advance_hostMem (s : State) : (s.advance).hostMem = s.hostMem := rfl
@[simp] theorem advance_agenda (s : State) : (s.advance).agenda = s.agenda.tail := rfl
@[simp] theorem advance_busData (s : State) : (s.advance).busData = s.busData := rfl
@[simp] theorem advance_draws (s : State) : (s.advance).draws = s.draws + 1 := rfl

/-! ### `putInForce` -/

@[simp] theorem putInForce_par (s : State) (cfg : FullConfig) (a : Bool) : (putInForce s cfg a).par = s.par := rfl
@[simp] theorem putInForce_begun (s : State) (cfg : FullConfig) (a : Bool) : (putInForce s cfg a).begun = s.begun := rfl
@[simp] theorem putInForce_n (s : State) (cfg : FullConfig) (a : Bool) : (putInForce s cfg a).n = cfg.n := rfl
@[simp] theorem putInForce_nSh (s : State) (cfg : FullConfig) (a : Bool) : (putInForce s cfg a).nSh = cfg.n := rfl
@[simp] theorem putInForce_ui (s : State) (cfg : FullConfig) (a : Bool) : (putInForce s cfg a).ui = cfg.ui := rfl
@[simp] theorem putInForce_uiSh (s : State) (cfg : FullConfig) (a : Bool) : (putInForce s cfg a).uiSh = cfg.ui := rfl
@[simp] theorem putInForce_result (s : State) (cfg : FullConfig) (a : Bool) : (putInForce s cfg a).result = ⟨s.result.code, s.result.port, a⟩ := rfl
@[simp] theorem putInForce_ports (s : State) (cfg : FullConfig) (a : Bool) : (putInForce s cfg a).ports = installAll cfg.ports s.ports := rfl
@[simp] theorem putInForce_symRam (s : State) (cfg : FullConfig) (a : Bool) : (putInForce s cfg a).symRam = s.symRam := rfl
@[simp] theorem putInForce_hostMem (s : State) (cfg : FullConfig) (a : Bool) : (putInForce s cfg a).hostMem = s.hostMem := rfl
@[simp] theorem putInForce_agenda (s : State) (cfg : FullConfig) (a : Bool) : (putInForce s cfg a).agenda = s.agenda := rfl
@[simp] theorem putInForce_busData (s : State) (cfg : FullConfig) (a : Bool) : (putInForce s cfg a).busData = s.busData := rfl
@[simp] theorem putInForce_draws (s : State) (cfg : FullConfig) (a : Bool) : (putInForce s cfg a).draws = s.draws := rfl

/-! ### `resetStep` -/

@[simp] theorem resetStep_par (s : State) : (resetStep s).par = s.par := rfl
@[simp] theorem resetStep_begun (s : State) : (resetStep s).begun = false := rfl
@[simp] theorem resetStep_n (s : State) : (resetStep s).n = BitVec.ofNat 8 s.ports.length := rfl
@[simp] theorem resetStep_nSh (s : State) : (resetStep s).nSh = BitVec.ofNat 8 s.ports.length := rfl
@[simp] theorem resetStep_ui (s : State) : (resetStep s).ui = 0 := rfl
@[simp] theorem resetStep_uiSh (s : State) : (resetStep s).uiSh = 0 := rfl
@[simp] theorem resetStep_result (s : State) : (resetStep s).result = ⟨.ok, 0, false⟩ := rfl
@[simp] theorem resetStep_ports (s : State) : (resetStep s).ports = List.replicate s.ports.length (Port.reset s.par) := rfl
@[simp] theorem resetStep_symRam (s : State) : (resetStep s).symRam = [] := rfl
@[simp] theorem resetStep_hostMem (s : State) : (resetStep s).hostMem = s.hostMem := rfl
@[simp] theorem resetStep_agenda (s : State) : (resetStep s).agenda = s.agenda := rfl
@[simp] theorem resetStep_busData (s : State) : (resetStep s).busData = s.busData := rfl
@[simp] theorem resetStep_draws (s : State) : (resetStep s).draws = s.draws := rfl

/-! ### `pushed` -/

@[simp] theorem pushed_cfg (w : Nat) (P : Port) : (pushed w P).cfg = P.cfg := rfl
@[simp] theorem pushed_sh (w : Nat) (P : Port) : (pushed w P).sh = P.sh := rfl
@[simp] theorem pushed_present (w : Nat) (P : Port) : (pushed w P).present = P.present := rfl
@[simp] theorem pushed_state (w : Nat) (P : Port) : (pushed w P).state = P.state := rfl
@[simp] theorem pushed_txActive (w : Nat) (P : Port) : (pushed w P).txActive = P.txActive := rfl
@[simp] theorem pushed_lwmIe (w : Nat) (P : Port) : (pushed w P).lwmIe = P.lwmIe := rfl
@[simp] theorem pushed_txdoneIe (w : Nat) (P : Port) : (pushed w P).txdoneIe = P.txdoneIe := rfl
@[simp] theorem pushed_txdoneFlag (w : Nat) (P : Port) : (pushed w P).txdoneFlag = P.txdoneFlag := rfl
@[simp] theorem pushed_starved (w : Nat) (P : Port) : (pushed w P).starved = P.starved := rfl
@[simp] theorem pushed_tdPending (w : Nat) (P : Port) : (pushed w P).tdPending = P.tdPending := rfl
@[simp] theorem pushed_padOut (w : Nat) (P : Port) : (pushed w P).padOut = P.padOut := rfl
@[simp] theorem pushed_errBusy (w : Nat) (P : Port) : (pushed w P).errBusy = P.errBusy := rfl
@[simp] theorem pushed_errUnderrun (w : Nat) (P : Port) : (pushed w P).errUnderrun = P.errUnderrun := rfl
@[simp] theorem pushed_done (w : Nat) (P : Port) : (pushed w P).done = P.done := rfl
@[simp] theorem pushed_tableValid (w : Nat) (P : Port) : (pushed w P).tableValid = P.tableValid := rfl
@[simp] theorem pushed_cur (w : Nat) (P : Port) : (pushed w P).cur = nextIndex w P.cur := rfl
@[simp] theorem pushed_rd (w : Nat) (P : Port) : (pushed w P).rd = P.rd := rfl
@[simp] theorem pushed_fill (w : Nat) (P : Port) : (pushed w P).fill = P.fill + 1 := rfl
@[simp] theorem pushed_remain (w : Nat) (P : Port) : (pushed w P).remain = P.remain := rfl
@[simp] theorem pushed_next (w : Nat) (P : Port) : (pushed w P).next = P.next := rfl
@[simp] theorem pushed_lookups (w : Nat) (P : Port) : (pushed w P).lookups = P.lookups := rfl
@[simp] theorem pushed_frames (w : Nat) (P : Port) : (pushed w P).frames = P.frames := rfl
@[simp] theorem pushed_table (w : Nat) (P : Port) : (pushed w P).table = P.table := rfl
@[simp] theorem pushed_stage (w : Nat) (P : Port) : (pushed w P).stage = P.stage := rfl
@[simp] theorem pushed_trace (w : Nat) (P : Port) : (pushed w P).trace = P.trace := rfl
@[simp] theorem pushed_lat (w : Nat) (P : Port) : (pushed w P).lat = P.lat := rfl
@[simp] theorem pushed_corrupt (w : Nat) (P : Port) : (pushed w P).corrupt = P.corrupt := rfl

/-! ### `consume` -/

@[simp] theorem consume_cfg (par : Config.Params) (P : Port) : (consume par P).cfg = P.cfg := rfl
@[simp] theorem consume_sh (par : Config.Params) (P : Port) : (consume par P).sh = P.sh := rfl
@[simp] theorem consume_present (par : Config.Params) (P : Port) : (consume par P).present = P.present := rfl
@[simp] theorem consume_state (par : Config.Params) (P : Port) : (consume par P).state = P.state := rfl
@[simp] theorem consume_txActive (par : Config.Params) (P : Port) : (consume par P).txActive = P.txActive := rfl
@[simp] theorem consume_lwmIe (par : Config.Params) (P : Port) : (consume par P).lwmIe = P.lwmIe := rfl
@[simp] theorem consume_txdoneIe (par : Config.Params) (P : Port) : (consume par P).txdoneIe = P.txdoneIe := rfl
@[simp] theorem consume_txdoneFlag (par : Config.Params) (P : Port) : (consume par P).txdoneFlag = P.txdoneFlag := rfl
@[simp] theorem consume_starved (par : Config.Params) (P : Port) : (consume par P).starved = false := rfl
@[simp] theorem consume_tdPending (par : Config.Params) (P : Port) : (consume par P).tdPending = P.tdPending := rfl
@[simp] theorem consume_padOut (par : Config.Params) (P : Port) : (consume par P).padOut = P.padOut := rfl
@[simp] theorem consume_errBusy (par : Config.Params) (P : Port) : (consume par P).errBusy = P.errBusy := rfl
@[simp] theorem consume_errUnderrun (par : Config.Params) (P : Port) : (consume par P).errUnderrun = P.errUnderrun := rfl
@[simp] theorem consume_done (par : Config.Params) (P : Port) : (consume par P).done = P.done := rfl
@[simp] theorem consume_tableValid (par : Config.Params) (P : Port) : (consume par P).tableValid = P.tableValid := rfl
@[simp] theorem consume_cur (par : Config.Params) (P : Port) : (consume par P).cur = P.cur := rfl
@[simp] theorem consume_rd (par : Config.Params) (P : Port) : (consume par P).rd = nextIndex par.w P.rd := rfl
@[simp] theorem consume_fill (par : Config.Params) (P : Port) : (consume par P).fill = P.fill - 1 := rfl
@[simp] theorem consume_remain (par : Config.Params) (P : Port) : (consume par P).remain = P.remain := rfl
@[simp] theorem consume_next (par : Config.Params) (P : Port) : (consume par P).next = P.next := rfl
@[simp] theorem consume_lookups (par : Config.Params) (P : Port) : (consume par P).lookups = P.lookups := rfl
@[simp] theorem consume_frames (par : Config.Params) (P : Port) : (consume par P).frames = P.frames := rfl
@[simp] theorem consume_table (par : Config.Params) (P : Port) : (consume par P).table = P.table := rfl
@[simp] theorem consume_stage (par : Config.Params) (P : Port) : (consume par P).stage = P.stage := rfl
@[simp] theorem consume_trace (par : Config.Params) (P : Port) : (consume par P).trace = P.trace := rfl
@[simp] theorem consume_lat (par : Config.Params) (P : Port) : (consume par P).lat = latAfterTx par P := rfl
@[simp] theorem consume_corrupt (par : Config.Params) (P : Port) : (consume par P).corrupt = P.corrupt := rfl

/-! ### `underrun` -/

@[simp] theorem underrun_cfg (par : Config.Params) (P : Port) : (underrun par P).cfg = P.cfg := rfl
@[simp] theorem underrun_sh (par : Config.Params) (P : Port) : (underrun par P).sh = P.sh := rfl
@[simp] theorem underrun_present (par : Config.Params) (P : Port) : (underrun par P).present = P.present := rfl
@[simp] theorem underrun_state (par : Config.Params) (P : Port) : (underrun par P).state = P.state := rfl
@[simp] theorem underrun_txActive (par : Config.Params) (P : Port) : (underrun par P).txActive = P.txActive := rfl
@[simp] theorem underrun_lwmIe (par : Config.Params) (P : Port) : (underrun par P).lwmIe = P.lwmIe := rfl
@[simp] theorem underrun_txdoneIe (par : Config.Params) (P : Port) : (underrun par P).txdoneIe = P.txdoneIe := rfl
@[simp] theorem underrun_txdoneFlag (par : Config.Params) (P : Port) : (underrun par P).txdoneFlag = P.txdoneFlag := rfl
@[simp] theorem underrun_starved (par : Config.Params) (P : Port) : (underrun par P).starved = true := rfl
@[simp] theorem underrun_tdPending (par : Config.Params) (P : Port) : (underrun par P).tdPending = P.tdPending := rfl
@[simp] theorem underrun_padOut (par : Config.Params) (P : Port) : (underrun par P).padOut = P.padOut := rfl
@[simp] theorem underrun_errBusy (par : Config.Params) (P : Port) : (underrun par P).errBusy = P.errBusy := rfl
@[simp] theorem underrun_errUnderrun (par : Config.Params) (P : Port) : (underrun par P).errUnderrun = true := rfl
@[simp] theorem underrun_done (par : Config.Params) (P : Port) : (underrun par P).done = P.done := rfl
@[simp] theorem underrun_tableValid (par : Config.Params) (P : Port) : (underrun par P).tableValid = P.tableValid := rfl
@[simp] theorem underrun_cur (par : Config.Params) (P : Port) : (underrun par P).cur = P.cur := rfl
@[simp] theorem underrun_rd (par : Config.Params) (P : Port) : (underrun par P).rd = P.rd := rfl
@[simp] theorem underrun_fill (par : Config.Params) (P : Port) : (underrun par P).fill = P.fill := rfl
@[simp] theorem underrun_remain (par : Config.Params) (P : Port) : (underrun par P).remain = P.remain := rfl
@[simp] theorem underrun_next (par : Config.Params) (P : Port) : (underrun par P).next = P.next := rfl
@[simp] theorem underrun_lookups (par : Config.Params) (P : Port) : (underrun par P).lookups = P.lookups := rfl
@[simp] theorem underrun_frames (par : Config.Params) (P : Port) : (underrun par P).frames = P.frames := rfl
@[simp] theorem underrun_table (par : Config.Params) (P : Port) : (underrun par P).table = P.table := rfl
@[simp] theorem underrun_stage (par : Config.Params) (P : Port) : (underrun par P).stage = P.stage := rfl
@[simp] theorem underrun_trace (par : Config.Params) (P : Port) : (underrun par P).trace = P.trace ++ [.underrun] := rfl
@[simp] theorem underrun_lat (par : Config.Params) (P : Port) : (underrun par P).lat = latAfterTx par P := rfl
@[simp] theorem underrun_corrupt (par : Config.Params) (P : Port) : (underrun par P).corrupt = true := rfl

/-! ### `emit` -/

@[simp] theorem emit_cfg (es : List TraceEntry) (P : Port) : (emit es P).cfg = P.cfg := rfl
@[simp] theorem emit_sh (es : List TraceEntry) (P : Port) : (emit es P).sh = P.sh := rfl
@[simp] theorem emit_present (es : List TraceEntry) (P : Port) : (emit es P).present = P.present := rfl
@[simp] theorem emit_state (es : List TraceEntry) (P : Port) : (emit es P).state = P.state := rfl
@[simp] theorem emit_txActive (es : List TraceEntry) (P : Port) : (emit es P).txActive = P.txActive := rfl
@[simp] theorem emit_lwmIe (es : List TraceEntry) (P : Port) : (emit es P).lwmIe = P.lwmIe := rfl
@[simp] theorem emit_txdoneIe (es : List TraceEntry) (P : Port) : (emit es P).txdoneIe = P.txdoneIe := rfl
@[simp] theorem emit_txdoneFlag (es : List TraceEntry) (P : Port) : (emit es P).txdoneFlag = P.txdoneFlag := rfl
@[simp] theorem emit_starved (es : List TraceEntry) (P : Port) : (emit es P).starved = P.starved := rfl
@[simp] theorem emit_tdPending (es : List TraceEntry) (P : Port) : (emit es P).tdPending = P.tdPending := rfl
@[simp] theorem emit_padOut (es : List TraceEntry) (P : Port) : (emit es P).padOut = P.padOut := rfl
@[simp] theorem emit_errBusy (es : List TraceEntry) (P : Port) : (emit es P).errBusy = P.errBusy := rfl
@[simp] theorem emit_errUnderrun (es : List TraceEntry) (P : Port) : (emit es P).errUnderrun = P.errUnderrun := rfl
@[simp] theorem emit_done (es : List TraceEntry) (P : Port) : (emit es P).done = P.done := rfl
@[simp] theorem emit_tableValid (es : List TraceEntry) (P : Port) : (emit es P).tableValid = P.tableValid := rfl
@[simp] theorem emit_cur (es : List TraceEntry) (P : Port) : (emit es P).cur = P.cur := rfl
@[simp] theorem emit_rd (es : List TraceEntry) (P : Port) : (emit es P).rd = P.rd := rfl
@[simp] theorem emit_fill (es : List TraceEntry) (P : Port) : (emit es P).fill = P.fill := rfl
@[simp] theorem emit_remain (es : List TraceEntry) (P : Port) : (emit es P).remain = P.remain := rfl
@[simp] theorem emit_next (es : List TraceEntry) (P : Port) : (emit es P).next = P.next := rfl
@[simp] theorem emit_lookups (es : List TraceEntry) (P : Port) : (emit es P).lookups = P.lookups := rfl
@[simp] theorem emit_frames (es : List TraceEntry) (P : Port) : (emit es P).frames = P.frames := rfl
@[simp] theorem emit_table (es : List TraceEntry) (P : Port) : (emit es P).table = P.table := rfl
@[simp] theorem emit_stage (es : List TraceEntry) (P : Port) : (emit es P).stage = P.stage := rfl
@[simp] theorem emit_trace (es : List TraceEntry) (P : Port) : (emit es P).trace = P.trace ++ es := rfl
@[simp] theorem emit_lat (es : List TraceEntry) (P : Port) : (emit es P).lat = P.lat := rfl
@[simp] theorem emit_corrupt (es : List TraceEntry) (P : Port) : (emit es P).corrupt = P.corrupt := rfl

/-! ### `stopTx` -/

@[simp] theorem stopTx_cfg (P : Port) : (stopTx P).cfg = P.cfg := rfl
@[simp] theorem stopTx_sh (P : Port) : (stopTx P).sh = P.sh := rfl
@[simp] theorem stopTx_present (P : Port) : (stopTx P).present = P.present := rfl
@[simp] theorem stopTx_state (P : Port) : (stopTx P).state = P.state := rfl
@[simp] theorem stopTx_txActive (P : Port) : (stopTx P).txActive = false := rfl
@[simp] theorem stopTx_lwmIe (P : Port) : (stopTx P).lwmIe = P.lwmIe := rfl
@[simp] theorem stopTx_txdoneIe (P : Port) : (stopTx P).txdoneIe = P.txdoneIe := rfl
@[simp] theorem stopTx_txdoneFlag (P : Port) : (stopTx P).txdoneFlag = true := rfl
@[simp] theorem stopTx_starved (P : Port) : (stopTx P).starved = P.starved := rfl
@[simp] theorem stopTx_tdPending (P : Port) : (stopTx P).tdPending = P.tdPending := rfl
@[simp] theorem stopTx_padOut (P : Port) : (stopTx P).padOut = P.padOut := rfl
@[simp] theorem stopTx_errBusy (P : Port) : (stopTx P).errBusy = P.errBusy := rfl
@[simp] theorem stopTx_errUnderrun (P : Port) : (stopTx P).errUnderrun = P.errUnderrun := rfl
@[simp] theorem stopTx_done (P : Port) : (stopTx P).done = P.done := rfl
@[simp] theorem stopTx_tableValid (P : Port) : (stopTx P).tableValid = P.tableValid := rfl
@[simp] theorem stopTx_cur (P : Port) : (stopTx P).cur = P.cur := rfl
@[simp] theorem stopTx_rd (P : Port) : (stopTx P).rd = P.rd := rfl
@[simp] theorem stopTx_fill (P : Port) : (stopTx P).fill = P.fill := rfl
@[simp] theorem stopTx_remain (P : Port) : (stopTx P).remain = P.remain := rfl
@[simp] theorem stopTx_next (P : Port) : (stopTx P).next = P.next := rfl
@[simp] theorem stopTx_lookups (P : Port) : (stopTx P).lookups = P.lookups := rfl
@[simp] theorem stopTx_frames (P : Port) : (stopTx P).frames = P.frames := rfl
@[simp] theorem stopTx_table (P : Port) : (stopTx P).table = P.table := rfl
@[simp] theorem stopTx_stage (P : Port) : (stopTx P).stage = P.stage := rfl
@[simp] theorem stopTx_trace (P : Port) : (stopTx P).trace = P.trace := rfl
@[simp] theorem stopTx_lat (P : Port) : (stopTx P).lat = P.lat := rfl
@[simp] theorem stopTx_corrupt (P : Port) : (stopTx P).corrupt = P.corrupt := rfl

/-! ### `activationEnd` -/

@[simp] theorem activationEnd_cfg (P : Port) : (activationEnd P).cfg = P.cfg := rfl
@[simp] theorem activationEnd_sh (P : Port) : (activationEnd P).sh = P.sh := rfl
@[simp] theorem activationEnd_present (P : Port) : (activationEnd P).present = P.present := rfl
@[simp] theorem activationEnd_state (P : Port) : (activationEnd P).state = P.state := rfl
@[simp] theorem activationEnd_txActive (P : Port) : (activationEnd P).txActive = P.txActive := rfl
@[simp] theorem activationEnd_lwmIe (P : Port) : (activationEnd P).lwmIe = P.lwmIe := rfl
@[simp] theorem activationEnd_txdoneIe (P : Port) : (activationEnd P).txdoneIe = P.txdoneIe := rfl
@[simp] theorem activationEnd_txdoneFlag (P : Port) : (activationEnd P).txdoneFlag = P.txdoneFlag := rfl
@[simp] theorem activationEnd_starved (P : Port) : (activationEnd P).starved = P.starved := rfl
@[simp] theorem activationEnd_tdPending (P : Port) : (activationEnd P).tdPending = P.tdPending := rfl
@[simp] theorem activationEnd_padOut (P : Port) : (activationEnd P).padOut = P.padOut := rfl
@[simp] theorem activationEnd_errBusy (P : Port) : (activationEnd P).errBusy = P.errBusy := rfl
@[simp] theorem activationEnd_errUnderrun (P : Port) : (activationEnd P).errUnderrun = P.errUnderrun := rfl
@[simp] theorem activationEnd_done (P : Port) : (activationEnd P).done = P.done := rfl
@[simp] theorem activationEnd_tableValid (P : Port) : (activationEnd P).tableValid = P.tableValid := rfl
@[simp] theorem activationEnd_cur (P : Port) : (activationEnd P).cur = P.cur := rfl
@[simp] theorem activationEnd_rd (P : Port) : (activationEnd P).rd = P.rd := rfl
@[simp] theorem activationEnd_fill (P : Port) : (activationEnd P).fill = P.fill := rfl
@[simp] theorem activationEnd_remain (P : Port) : (activationEnd P).remain = P.remain := rfl
@[simp] theorem activationEnd_next (P : Port) : (activationEnd P).next = P.next := rfl
@[simp] theorem activationEnd_lookups (P : Port) : (activationEnd P).lookups = P.lookups := rfl
@[simp] theorem activationEnd_frames (P : Port) : (activationEnd P).frames = P.frames := rfl
@[simp] theorem activationEnd_table (P : Port) : (activationEnd P).table = P.table := rfl
@[simp] theorem activationEnd_stage (P : Port) : (activationEnd P).stage = P.stage := rfl
@[simp] theorem activationEnd_trace (P : Port) : (activationEnd P).trace = P.trace := rfl
@[simp] theorem activationEnd_lat (P : Port) : (activationEnd P).lat = 0 := rfl
@[simp] theorem activationEnd_corrupt (P : Port) : (activationEnd P).corrupt = P.corrupt := rfl

/-! ### `startFrame` -/

@[simp] theorem startFrame_cfg (P : Port) : (startFrame P).cfg = P.cfg := rfl
@[simp] theorem startFrame_sh (P : Port) : (startFrame P).sh = P.sh := rfl
@[simp] theorem startFrame_present (P : Port) : (startFrame P).present = P.present := rfl
@[simp] theorem startFrame_state (P : Port) : (startFrame P).state = .streaming := rfl
@[simp] theorem startFrame_txActive (P : Port) : (startFrame P).txActive = true := rfl
@[simp] theorem startFrame_lwmIe (P : Port) : (startFrame P).lwmIe = P.lwmIe := rfl
@[simp] theorem startFrame_txdoneIe (P : Port) : (startFrame P).txdoneIe = P.txdoneIe := rfl
@[simp] theorem startFrame_txdoneFlag (P : Port) : (startFrame P).txdoneFlag = P.txdoneFlag := rfl
@[simp] theorem startFrame_starved (P : Port) : (startFrame P).starved = P.starved := rfl
@[simp] theorem startFrame_tdPending (P : Port) : (startFrame P).tdPending = P.tdPending := rfl
@[simp] theorem startFrame_padOut (P : Port) : (startFrame P).padOut = P.padOut := rfl
@[simp] theorem startFrame_errBusy (P : Port) : (startFrame P).errBusy = P.errBusy := rfl
@[simp] theorem startFrame_errUnderrun (P : Port) : (startFrame P).errUnderrun = P.errUnderrun := rfl
@[simp] theorem startFrame_done (P : Port) : (startFrame P).done = P.done := rfl
@[simp] theorem startFrame_tableValid (P : Port) : (startFrame P).tableValid = P.tableValid := rfl
@[simp] theorem startFrame_cur (P : Port) : (startFrame P).cur = P.cur := rfl
@[simp] theorem startFrame_rd (P : Port) : (startFrame P).rd = P.rd := rfl
@[simp] theorem startFrame_fill (P : Port) : (startFrame P).fill = P.fill := rfl
@[simp] theorem startFrame_remain (P : Port) : (startFrame P).remain = P.remain := rfl
@[simp] theorem startFrame_next (P : Port) : (startFrame P).next = P.next := rfl
@[simp] theorem startFrame_lookups (P : Port) : (startFrame P).lookups = P.lookups := rfl
@[simp] theorem startFrame_frames (P : Port) : (startFrame P).frames = P.frames := rfl
@[simp] theorem startFrame_table (P : Port) : (startFrame P).table = P.table := rfl
@[simp] theorem startFrame_stage (P : Port) : (startFrame P).stage = P.stage := rfl
@[simp] theorem startFrame_trace (P : Port) : (startFrame P).trace = P.trace := rfl
@[simp] theorem startFrame_lat (P : Port) : (startFrame P).lat = P.lat := rfl
@[simp] theorem startFrame_corrupt (P : Port) : (startFrame P).corrupt = P.corrupt := rfl

/-! ### `endFrame` -/

@[simp] theorem endFrame_cfg (P : Port) : (endFrame P).cfg = P.cfg := rfl
@[simp] theorem endFrame_sh (P : Port) : (endFrame P).sh = P.sh := rfl
@[simp] theorem endFrame_present (P : Port) : (endFrame P).present = P.present := rfl
@[simp] theorem endFrame_state (P : Port) : (endFrame P).state = .frameEnd := rfl
@[simp] theorem endFrame_txActive (P : Port) : (endFrame P).txActive = P.txActive := rfl
@[simp] theorem endFrame_lwmIe (P : Port) : (endFrame P).lwmIe = false := rfl
@[simp] theorem endFrame_txdoneIe (P : Port) : (endFrame P).txdoneIe = true := rfl
@[simp] theorem endFrame_txdoneFlag (P : Port) : (endFrame P).txdoneFlag = P.txdoneFlag := rfl
@[simp] theorem endFrame_starved (P : Port) : (endFrame P).starved = P.starved := rfl
@[simp] theorem endFrame_tdPending (P : Port) : (endFrame P).tdPending = P.tdPending := rfl
@[simp] theorem endFrame_padOut (P : Port) : (endFrame P).padOut = P.padOut := rfl
@[simp] theorem endFrame_errBusy (P : Port) : (endFrame P).errBusy = P.errBusy := rfl
@[simp] theorem endFrame_errUnderrun (P : Port) : (endFrame P).errUnderrun = P.errUnderrun := rfl
@[simp] theorem endFrame_done (P : Port) : (endFrame P).done = P.done := rfl
@[simp] theorem endFrame_tableValid (P : Port) : (endFrame P).tableValid = P.tableValid := rfl
@[simp] theorem endFrame_cur (P : Port) : (endFrame P).cur = P.cur := rfl
@[simp] theorem endFrame_rd (P : Port) : (endFrame P).rd = P.rd := rfl
@[simp] theorem endFrame_fill (P : Port) : (endFrame P).fill = P.fill := rfl
@[simp] theorem endFrame_remain (P : Port) : (endFrame P).remain = P.remain := rfl
@[simp] theorem endFrame_next (P : Port) : (endFrame P).next = P.next := rfl
@[simp] theorem endFrame_lookups (P : Port) : (endFrame P).lookups = P.lookups := rfl
@[simp] theorem endFrame_frames (P : Port) : (endFrame P).frames = P.frames := rfl
@[simp] theorem endFrame_table (P : Port) : (endFrame P).table = P.table := rfl
@[simp] theorem endFrame_stage (P : Port) : (endFrame P).stage = P.stage := rfl
@[simp] theorem endFrame_trace (P : Port) : (endFrame P).trace = P.trace := rfl
@[simp] theorem endFrame_lat (P : Port) : (endFrame P).lat = P.lat := rfl
@[simp] theorem endFrame_corrupt (P : Port) : (endFrame P).corrupt = P.corrupt := rfl

/-! ### `completeFrame` -/

@[simp] theorem completeFrame_cfg (P : Port) : (completeFrame P).cfg = P.cfg := rfl
@[simp] theorem completeFrame_sh (P : Port) : (completeFrame P).sh = P.sh := rfl
@[simp] theorem completeFrame_present (P : Port) : (completeFrame P).present = P.present := rfl
@[simp] theorem completeFrame_state (P : Port) : (completeFrame P).state = .idle := rfl
@[simp] theorem completeFrame_txActive (P : Port) : (completeFrame P).txActive = P.txActive := rfl
@[simp] theorem completeFrame_lwmIe (P : Port) : (completeFrame P).lwmIe = P.lwmIe := rfl
@[simp] theorem completeFrame_txdoneIe (P : Port) : (completeFrame P).txdoneIe = false := rfl
@[simp] theorem completeFrame_txdoneFlag (P : Port) : (completeFrame P).txdoneFlag = false := rfl
@[simp] theorem completeFrame_starved (P : Port) : (completeFrame P).starved = P.starved := rfl
@[simp] theorem completeFrame_tdPending (P : Port) : (completeFrame P).tdPending = P.tdPending := rfl
@[simp] theorem completeFrame_padOut (P : Port) : (completeFrame P).padOut = P.padOut := rfl
@[simp] theorem completeFrame_errBusy (P : Port) : (completeFrame P).errBusy = P.errBusy := rfl
@[simp] theorem completeFrame_errUnderrun (P : Port) : (completeFrame P).errUnderrun = P.errUnderrun := rfl
@[simp] theorem completeFrame_done (P : Port) : (completeFrame P).done = true := rfl
@[simp] theorem completeFrame_tableValid (P : Port) : (completeFrame P).tableValid = P.tableValid := rfl
@[simp] theorem completeFrame_cur (P : Port) : (completeFrame P).cur = P.cur := rfl
@[simp] theorem completeFrame_rd (P : Port) : (completeFrame P).rd = P.rd := rfl
@[simp] theorem completeFrame_fill (P : Port) : (completeFrame P).fill = P.fill := rfl
@[simp] theorem completeFrame_remain (P : Port) : (completeFrame P).remain = P.remain := rfl
@[simp] theorem completeFrame_next (P : Port) : (completeFrame P).next = P.next := rfl
@[simp] theorem completeFrame_lookups (P : Port) : (completeFrame P).lookups = P.lookups := rfl
@[simp] theorem completeFrame_frames (P : Port) : (completeFrame P).frames = P.frames + 1 := rfl
@[simp] theorem completeFrame_table (P : Port) : (completeFrame P).table = P.table := rfl
@[simp] theorem completeFrame_stage (P : Port) : (completeFrame P).stage = P.stage := rfl
@[simp] theorem completeFrame_trace (P : Port) : (completeFrame P).trace = P.trace := rfl
@[simp] theorem completeFrame_lat (P : Port) : (completeFrame P).lat = P.lat := rfl
@[simp] theorem completeFrame_corrupt (P : Port) : (completeFrame P).corrupt = P.corrupt := rfl

/-! ### `countLookup` -/

@[simp] theorem countLookup_cfg (P : Port) : (countLookup P).cfg = P.cfg := rfl
@[simp] theorem countLookup_sh (P : Port) : (countLookup P).sh = P.sh := rfl
@[simp] theorem countLookup_present (P : Port) : (countLookup P).present = P.present := rfl
@[simp] theorem countLookup_state (P : Port) : (countLookup P).state = P.state := rfl
@[simp] theorem countLookup_txActive (P : Port) : (countLookup P).txActive = P.txActive := rfl
@[simp] theorem countLookup_lwmIe (P : Port) : (countLookup P).lwmIe = P.lwmIe := rfl
@[simp] theorem countLookup_txdoneIe (P : Port) : (countLookup P).txdoneIe = P.txdoneIe := rfl
@[simp] theorem countLookup_txdoneFlag (P : Port) : (countLookup P).txdoneFlag = P.txdoneFlag := rfl
@[simp] theorem countLookup_starved (P : Port) : (countLookup P).starved = P.starved := rfl
@[simp] theorem countLookup_tdPending (P : Port) : (countLookup P).tdPending = P.tdPending := rfl
@[simp] theorem countLookup_padOut (P : Port) : (countLookup P).padOut = P.padOut := rfl
@[simp] theorem countLookup_errBusy (P : Port) : (countLookup P).errBusy = P.errBusy := rfl
@[simp] theorem countLookup_errUnderrun (P : Port) : (countLookup P).errUnderrun = P.errUnderrun := rfl
@[simp] theorem countLookup_done (P : Port) : (countLookup P).done = P.done := rfl
@[simp] theorem countLookup_tableValid (P : Port) : (countLookup P).tableValid = P.tableValid := rfl
@[simp] theorem countLookup_cur (P : Port) : (countLookup P).cur = P.cur := rfl
@[simp] theorem countLookup_rd (P : Port) : (countLookup P).rd = P.rd := rfl
@[simp] theorem countLookup_fill (P : Port) : (countLookup P).fill = P.fill := rfl
@[simp] theorem countLookup_remain (P : Port) : (countLookup P).remain = P.remain := rfl
@[simp] theorem countLookup_next (P : Port) : (countLookup P).next = P.next := rfl
@[simp] theorem countLookup_lookups (P : Port) : (countLookup P).lookups = P.lookups + 1 := rfl
@[simp] theorem countLookup_frames (P : Port) : (countLookup P).frames = P.frames := rfl
@[simp] theorem countLookup_table (P : Port) : (countLookup P).table = P.table := rfl
@[simp] theorem countLookup_stage (P : Port) : (countLookup P).stage = P.stage := rfl
@[simp] theorem countLookup_trace (P : Port) : (countLookup P).trace = P.trace := rfl
@[simp] theorem countLookup_lat (P : Port) : (countLookup P).lat = P.lat := rfl
@[simp] theorem countLookup_corrupt (P : Port) : (countLookup P).corrupt = P.corrupt := rfl

/-! ### `countByte` -/

@[simp] theorem countByte_cfg (P : Port) : (countByte P).cfg = P.cfg := rfl
@[simp] theorem countByte_sh (P : Port) : (countByte P).sh = P.sh := rfl
@[simp] theorem countByte_present (P : Port) : (countByte P).present = P.present := rfl
@[simp] theorem countByte_state (P : Port) : (countByte P).state = P.state := rfl
@[simp] theorem countByte_txActive (P : Port) : (countByte P).txActive = P.txActive := rfl
@[simp] theorem countByte_lwmIe (P : Port) : (countByte P).lwmIe = P.lwmIe := rfl
@[simp] theorem countByte_txdoneIe (P : Port) : (countByte P).txdoneIe = P.txdoneIe := rfl
@[simp] theorem countByte_txdoneFlag (P : Port) : (countByte P).txdoneFlag = P.txdoneFlag := rfl
@[simp] theorem countByte_starved (P : Port) : (countByte P).starved = P.starved := rfl
@[simp] theorem countByte_tdPending (P : Port) : (countByte P).tdPending = P.tdPending := rfl
@[simp] theorem countByte_padOut (P : Port) : (countByte P).padOut = P.padOut := rfl
@[simp] theorem countByte_errBusy (P : Port) : (countByte P).errBusy = P.errBusy := rfl
@[simp] theorem countByte_errUnderrun (P : Port) : (countByte P).errUnderrun = P.errUnderrun := rfl
@[simp] theorem countByte_done (P : Port) : (countByte P).done = P.done := rfl
@[simp] theorem countByte_tableValid (P : Port) : (countByte P).tableValid = P.tableValid := rfl
@[simp] theorem countByte_cur (P : Port) : (countByte P).cur = P.cur := rfl
@[simp] theorem countByte_rd (P : Port) : (countByte P).rd = P.rd := rfl
@[simp] theorem countByte_fill (P : Port) : (countByte P).fill = P.fill := rfl
@[simp] theorem countByte_remain (P : Port) : (countByte P).remain = P.remain - 1 := rfl
@[simp] theorem countByte_next (P : Port) : (countByte P).next = P.next + 1 := rfl
@[simp] theorem countByte_lookups (P : Port) : (countByte P).lookups = P.lookups := rfl
@[simp] theorem countByte_frames (P : Port) : (countByte P).frames = P.frames := rfl
@[simp] theorem countByte_table (P : Port) : (countByte P).table = P.table := rfl
@[simp] theorem countByte_stage (P : Port) : (countByte P).stage = P.stage := rfl
@[simp] theorem countByte_trace (P : Port) : (countByte P).trace = P.trace := rfl
@[simp] theorem countByte_lat (P : Port) : (countByte P).lat = P.lat := rfl
@[simp] theorem countByte_corrupt (P : Port) : (countByte P).corrupt = P.corrupt := rfl

/-! ### `release` -/

@[simp] theorem release_cfg (P : Port) : (release P).cfg = { P.cfg with en := false, gpioId := Config.gpioSentinel } := rfl
@[simp] theorem release_sh (P : Port) : (release P).sh = { P.cfg with en := false, gpioId := Config.gpioSentinel } := rfl
@[simp] theorem release_present (P : Port) : (release P).present = false := rfl
@[simp] theorem release_state (P : Port) : (release P).state = P.state := rfl
@[simp] theorem release_txActive (P : Port) : (release P).txActive = P.txActive := rfl
@[simp] theorem release_lwmIe (P : Port) : (release P).lwmIe = P.lwmIe := rfl
@[simp] theorem release_txdoneIe (P : Port) : (release P).txdoneIe = P.txdoneIe := rfl
@[simp] theorem release_txdoneFlag (P : Port) : (release P).txdoneFlag = P.txdoneFlag := rfl
@[simp] theorem release_starved (P : Port) : (release P).starved = P.starved := rfl
@[simp] theorem release_tdPending (P : Port) : (release P).tdPending = P.tdPending := rfl
@[simp] theorem release_padOut (P : Port) : (release P).padOut = false := rfl
@[simp] theorem release_errBusy (P : Port) : (release P).errBusy = P.errBusy := rfl
@[simp] theorem release_errUnderrun (P : Port) : (release P).errUnderrun = P.errUnderrun := rfl
@[simp] theorem release_done (P : Port) : (release P).done = P.done := rfl
@[simp] theorem release_tableValid (P : Port) : (release P).tableValid = P.tableValid := rfl
@[simp] theorem release_cur (P : Port) : (release P).cur = P.cur := rfl
@[simp] theorem release_rd (P : Port) : (release P).rd = P.rd := rfl
@[simp] theorem release_fill (P : Port) : (release P).fill = P.fill := rfl
@[simp] theorem release_remain (P : Port) : (release P).remain = P.remain := rfl
@[simp] theorem release_next (P : Port) : (release P).next = P.next := rfl
@[simp] theorem release_lookups (P : Port) : (release P).lookups = P.lookups := rfl
@[simp] theorem release_frames (P : Port) : (release P).frames = P.frames := rfl
@[simp] theorem release_table (P : Port) : (release P).table = P.table := rfl
@[simp] theorem release_stage (P : Port) : (release P).stage = P.stage := rfl
@[simp] theorem release_trace (P : Port) : (release P).trace = P.trace := rfl
@[simp] theorem release_lat (P : Port) : (release P).lat = P.lat := rfl
@[simp] theorem release_corrupt (P : Port) : (release P).corrupt = P.corrupt := rfl

/-! ### `install` -/

@[simp] theorem install_cfg (c : PortConfig) (P : Port) : (install c P).cfg = c := rfl
@[simp] theorem install_sh (c : PortConfig) (P : Port) : (install c P).sh = c := rfl
@[simp] theorem install_present (c : PortConfig) (P : Port) : (install c P).present = false := rfl
@[simp] theorem install_state (c : PortConfig) (P : Port) : (install c P).state = P.state := rfl
@[simp] theorem install_txActive (c : PortConfig) (P : Port) : (install c P).txActive = P.txActive := rfl
@[simp] theorem install_lwmIe (c : PortConfig) (P : Port) : (install c P).lwmIe = P.lwmIe := rfl
@[simp] theorem install_txdoneIe (c : PortConfig) (P : Port) : (install c P).txdoneIe = P.txdoneIe := rfl
@[simp] theorem install_txdoneFlag (c : PortConfig) (P : Port) : (install c P).txdoneFlag = P.txdoneFlag := rfl
@[simp] theorem install_starved (c : PortConfig) (P : Port) : (install c P).starved = P.starved := rfl
@[simp] theorem install_tdPending (c : PortConfig) (P : Port) : (install c P).tdPending = P.tdPending := rfl
@[simp] theorem install_padOut (c : PortConfig) (P : Port) : (install c P).padOut = padRule c := rfl
@[simp] theorem install_errBusy (c : PortConfig) (P : Port) : (install c P).errBusy = P.errBusy := rfl
@[simp] theorem install_errUnderrun (c : PortConfig) (P : Port) : (install c P).errUnderrun = P.errUnderrun := rfl
@[simp] theorem install_done (c : PortConfig) (P : Port) : (install c P).done = P.done := rfl
@[simp] theorem install_tableValid (c : PortConfig) (P : Port) : (install c P).tableValid = P.tableValid := rfl
@[simp] theorem install_cur (c : PortConfig) (P : Port) : (install c P).cur = P.cur := rfl
@[simp] theorem install_rd (c : PortConfig) (P : Port) : (install c P).rd = P.rd := rfl
@[simp] theorem install_fill (c : PortConfig) (P : Port) : (install c P).fill = P.fill := rfl
@[simp] theorem install_remain (c : PortConfig) (P : Port) : (install c P).remain = P.remain := rfl
@[simp] theorem install_next (c : PortConfig) (P : Port) : (install c P).next = P.next := rfl
@[simp] theorem install_lookups (c : PortConfig) (P : Port) : (install c P).lookups = P.lookups := rfl
@[simp] theorem install_frames (c : PortConfig) (P : Port) : (install c P).frames = P.frames := rfl
@[simp] theorem install_table (c : PortConfig) (P : Port) : (install c P).table = buildTable c := rfl
@[simp] theorem install_stage (c : PortConfig) (P : Port) : (install c P).stage = P.stage := rfl
@[simp] theorem install_trace (c : PortConfig) (P : Port) : (install c P).trace = P.trace := rfl
@[simp] theorem install_lat (c : PortConfig) (P : Port) : (install c P).lat = P.lat := rfl
@[simp] theorem install_corrupt (c : PortConfig) (P : Port) : (install c P).corrupt = P.corrupt := rfl

/-! ### `armPort` -/

@[simp] theorem armPort_cfg (m : HostMem) (P : Port) : (armPort m P).cfg = P.cfg := rfl
@[simp] theorem armPort_sh (m : HostMem) (P : Port) : (armPort m P).sh = P.sh := rfl
@[simp] theorem armPort_present (m : HostMem) (P : Port) : (armPort m P).present = P.present := rfl
@[simp] theorem armPort_state (m : HostMem) (P : Port) : (armPort m P).state = .frameStart := rfl
@[simp] theorem armPort_txActive (m : HostMem) (P : Port) : (armPort m P).txActive = P.txActive := rfl
@[simp] theorem armPort_lwmIe (m : HostMem) (P : Port) : (armPort m P).lwmIe = true := rfl
@[simp] theorem armPort_txdoneIe (m : HostMem) (P : Port) : (armPort m P).txdoneIe = false := rfl
@[simp] theorem armPort_txdoneFlag (m : HostMem) (P : Port) : (armPort m P).txdoneFlag = false := rfl
@[simp] theorem armPort_starved (m : HostMem) (P : Port) : (armPort m P).starved = false := rfl
@[simp] theorem armPort_tdPending (m : HostMem) (P : Port) : (armPort m P).tdPending = P.tdPending := rfl
@[simp] theorem armPort_padOut (m : HostMem) (P : Port) : (armPort m P).padOut = P.padOut := rfl
@[simp] theorem armPort_errBusy (m : HostMem) (P : Port) : (armPort m P).errBusy = P.errBusy := rfl
@[simp] theorem armPort_errUnderrun (m : HostMem) (P : Port) : (armPort m P).errUnderrun = P.errUnderrun := rfl
@[simp] theorem armPort_done (m : HostMem) (P : Port) : (armPort m P).done = P.done := rfl
@[simp] theorem armPort_tableValid (m : HostMem) (P : Port) : (armPort m P).tableValid = P.tableValid := rfl
@[simp] theorem armPort_cur (m : HostMem) (P : Port) : (armPort m P).cur = 0 := rfl
@[simp] theorem armPort_rd (m : HostMem) (P : Port) : (armPort m P).rd = 0 := rfl
@[simp] theorem armPort_fill (m : HostMem) (P : Port) : (armPort m P).fill = 0 := rfl
@[simp] theorem armPort_remain (m : HostMem) (P : Port) : (armPort m P).remain = P.cfg.k := rfl
@[simp] theorem armPort_next (m : HostMem) (P : Port) : (armPort m P).next = 0 := rfl
@[simp] theorem armPort_lookups (m : HostMem) (P : Port) : (armPort m P).lookups = 0 := rfl
@[simp] theorem armPort_frames (m : HostMem) (P : Port) : (armPort m P).frames = P.frames := rfl
@[simp] theorem armPort_table (m : HostMem) (P : Port) : (armPort m P).table = P.table := rfl
@[simp] theorem armPort_stage (m : HostMem) (P : Port) : (armPort m P).stage = hostBytes m P.cfg.src.toNat P.cfg.k.toNat := rfl
@[simp] theorem armPort_trace (m : HostMem) (P : Port) : (armPort m P).trace = P.trace := rfl
@[simp] theorem armPort_lat (m : HostMem) (P : Port) : (armPort m P).lat = P.lat := rfl
@[simp] theorem armPort_corrupt (m : HostMem) (P : Port) : (armPort m P).corrupt = false := rfl

/-! ### `markBusy` -/

@[simp] theorem markBusy_cfg (P : Port) : (markBusy P).cfg = P.cfg := rfl
@[simp] theorem markBusy_sh (P : Port) : (markBusy P).sh = P.sh := rfl
@[simp] theorem markBusy_present (P : Port) : (markBusy P).present = P.present := rfl
@[simp] theorem markBusy_state (P : Port) : (markBusy P).state = P.state := rfl
@[simp] theorem markBusy_txActive (P : Port) : (markBusy P).txActive = P.txActive := rfl
@[simp] theorem markBusy_lwmIe (P : Port) : (markBusy P).lwmIe = P.lwmIe := rfl
@[simp] theorem markBusy_txdoneIe (P : Port) : (markBusy P).txdoneIe = P.txdoneIe := rfl
@[simp] theorem markBusy_txdoneFlag (P : Port) : (markBusy P).txdoneFlag = P.txdoneFlag := rfl
@[simp] theorem markBusy_starved (P : Port) : (markBusy P).starved = P.starved := rfl
@[simp] theorem markBusy_tdPending (P : Port) : (markBusy P).tdPending = P.tdPending := rfl
@[simp] theorem markBusy_padOut (P : Port) : (markBusy P).padOut = P.padOut := rfl
@[simp] theorem markBusy_errBusy (P : Port) : (markBusy P).errBusy = true := rfl
@[simp] theorem markBusy_errUnderrun (P : Port) : (markBusy P).errUnderrun = P.errUnderrun := rfl
@[simp] theorem markBusy_done (P : Port) : (markBusy P).done = P.done := rfl
@[simp] theorem markBusy_tableValid (P : Port) : (markBusy P).tableValid = P.tableValid := rfl
@[simp] theorem markBusy_cur (P : Port) : (markBusy P).cur = P.cur := rfl
@[simp] theorem markBusy_rd (P : Port) : (markBusy P).rd = P.rd := rfl
@[simp] theorem markBusy_fill (P : Port) : (markBusy P).fill = P.fill := rfl
@[simp] theorem markBusy_remain (P : Port) : (markBusy P).remain = P.remain := rfl
@[simp] theorem markBusy_next (P : Port) : (markBusy P).next = P.next := rfl
@[simp] theorem markBusy_lookups (P : Port) : (markBusy P).lookups = P.lookups := rfl
@[simp] theorem markBusy_frames (P : Port) : (markBusy P).frames = P.frames := rfl
@[simp] theorem markBusy_table (P : Port) : (markBusy P).table = P.table := rfl
@[simp] theorem markBusy_stage (P : Port) : (markBusy P).stage = P.stage := rfl
@[simp] theorem markBusy_trace (P : Port) : (markBusy P).trace = P.trace := rfl
@[simp] theorem markBusy_lat (P : Port) : (markBusy P).lat = P.lat := rfl
@[simp] theorem markBusy_corrupt (P : Port) : (markBusy P).corrupt = P.corrupt := rfl

/-! ### `clearSticky` -/

@[simp] theorem clearSticky_cfg (P : Port) : (clearSticky P).cfg = P.cfg := rfl
@[simp] theorem clearSticky_sh (P : Port) : (clearSticky P).sh = P.sh := rfl
@[simp] theorem clearSticky_present (P : Port) : (clearSticky P).present = P.present := rfl
@[simp] theorem clearSticky_state (P : Port) : (clearSticky P).state = P.state := rfl
@[simp] theorem clearSticky_txActive (P : Port) : (clearSticky P).txActive = P.txActive := rfl
@[simp] theorem clearSticky_lwmIe (P : Port) : (clearSticky P).lwmIe = P.lwmIe := rfl
@[simp] theorem clearSticky_txdoneIe (P : Port) : (clearSticky P).txdoneIe = P.txdoneIe := rfl
@[simp] theorem clearSticky_txdoneFlag (P : Port) : (clearSticky P).txdoneFlag = P.txdoneFlag := rfl
@[simp] theorem clearSticky_starved (P : Port) : (clearSticky P).starved = P.starved := rfl
@[simp] theorem clearSticky_tdPending (P : Port) : (clearSticky P).tdPending = P.tdPending := rfl
@[simp] theorem clearSticky_padOut (P : Port) : (clearSticky P).padOut = P.padOut := rfl
@[simp] theorem clearSticky_errBusy (P : Port) : (clearSticky P).errBusy = false := rfl
@[simp] theorem clearSticky_errUnderrun (P : Port) : (clearSticky P).errUnderrun = false := rfl
@[simp] theorem clearSticky_done (P : Port) : (clearSticky P).done = false := rfl
@[simp] theorem clearSticky_tableValid (P : Port) : (clearSticky P).tableValid = P.tableValid := rfl
@[simp] theorem clearSticky_cur (P : Port) : (clearSticky P).cur = P.cur := rfl
@[simp] theorem clearSticky_rd (P : Port) : (clearSticky P).rd = P.rd := rfl
@[simp] theorem clearSticky_fill (P : Port) : (clearSticky P).fill = P.fill := rfl
@[simp] theorem clearSticky_remain (P : Port) : (clearSticky P).remain = P.remain := rfl
@[simp] theorem clearSticky_next (P : Port) : (clearSticky P).next = P.next := rfl
@[simp] theorem clearSticky_lookups (P : Port) : (clearSticky P).lookups = P.lookups := rfl
@[simp] theorem clearSticky_frames (P : Port) : (clearSticky P).frames = P.frames := rfl
@[simp] theorem clearSticky_table (P : Port) : (clearSticky P).table = P.table := rfl
@[simp] theorem clearSticky_stage (P : Port) : (clearSticky P).stage = P.stage := rfl
@[simp] theorem clearSticky_trace (P : Port) : (clearSticky P).trace = P.trace := rfl
@[simp] theorem clearSticky_lat (P : Port) : (clearSticky P).lat = P.lat := rfl
@[simp] theorem clearSticky_corrupt (P : Port) : (clearSticky P).corrupt = P.corrupt := rfl

/-! ### `deferTeardown` -/

@[simp] theorem deferTeardown_cfg (P : Port) : (deferTeardown P).cfg = P.cfg := rfl
@[simp] theorem deferTeardown_sh (P : Port) : (deferTeardown P).sh = P.sh := rfl
@[simp] theorem deferTeardown_present (P : Port) : (deferTeardown P).present = P.present := rfl
@[simp] theorem deferTeardown_state (P : Port) : (deferTeardown P).state = P.state := rfl
@[simp] theorem deferTeardown_txActive (P : Port) : (deferTeardown P).txActive = P.txActive := rfl
@[simp] theorem deferTeardown_lwmIe (P : Port) : (deferTeardown P).lwmIe = P.lwmIe := rfl
@[simp] theorem deferTeardown_txdoneIe (P : Port) : (deferTeardown P).txdoneIe = P.txdoneIe := rfl
@[simp] theorem deferTeardown_txdoneFlag (P : Port) : (deferTeardown P).txdoneFlag = P.txdoneFlag := rfl
@[simp] theorem deferTeardown_starved (P : Port) : (deferTeardown P).starved = P.starved := rfl
@[simp] theorem deferTeardown_tdPending (P : Port) : (deferTeardown P).tdPending = true := rfl
@[simp] theorem deferTeardown_padOut (P : Port) : (deferTeardown P).padOut = P.padOut := rfl
@[simp] theorem deferTeardown_errBusy (P : Port) : (deferTeardown P).errBusy = P.errBusy := rfl
@[simp] theorem deferTeardown_errUnderrun (P : Port) : (deferTeardown P).errUnderrun = P.errUnderrun := rfl
@[simp] theorem deferTeardown_done (P : Port) : (deferTeardown P).done = P.done := rfl
@[simp] theorem deferTeardown_tableValid (P : Port) : (deferTeardown P).tableValid = P.tableValid := rfl
@[simp] theorem deferTeardown_cur (P : Port) : (deferTeardown P).cur = P.cur := rfl
@[simp] theorem deferTeardown_rd (P : Port) : (deferTeardown P).rd = P.rd := rfl
@[simp] theorem deferTeardown_fill (P : Port) : (deferTeardown P).fill = P.fill := rfl
@[simp] theorem deferTeardown_remain (P : Port) : (deferTeardown P).remain = P.remain := rfl
@[simp] theorem deferTeardown_next (P : Port) : (deferTeardown P).next = P.next := rfl
@[simp] theorem deferTeardown_lookups (P : Port) : (deferTeardown P).lookups = P.lookups := rfl
@[simp] theorem deferTeardown_frames (P : Port) : (deferTeardown P).frames = P.frames := rfl
@[simp] theorem deferTeardown_table (P : Port) : (deferTeardown P).table = P.table := rfl
@[simp] theorem deferTeardown_stage (P : Port) : (deferTeardown P).stage = P.stage := rfl
@[simp] theorem deferTeardown_trace (P : Port) : (deferTeardown P).trace = P.trace := rfl
@[simp] theorem deferTeardown_lat (P : Port) : (deferTeardown P).lat = P.lat := rfl
@[simp] theorem deferTeardown_corrupt (P : Port) : (deferTeardown P).corrupt = P.corrupt := rfl

/-! ### `shadowWrite` -/

@[simp] theorem shadowWrite_cfg (r : CfgReg) (d : Word) (P : Port) : (shadowWrite r d P).cfg = P.cfg := rfl
@[simp] theorem shadowWrite_sh (r : CfgReg) (d : Word) (P : Port) : (shadowWrite r d P).sh = cfgWrite P.sh r d := rfl
@[simp] theorem shadowWrite_present (r : CfgReg) (d : Word) (P : Port) : (shadowWrite r d P).present = true := rfl
@[simp] theorem shadowWrite_state (r : CfgReg) (d : Word) (P : Port) : (shadowWrite r d P).state = P.state := rfl
@[simp] theorem shadowWrite_txActive (r : CfgReg) (d : Word) (P : Port) : (shadowWrite r d P).txActive = P.txActive := rfl
@[simp] theorem shadowWrite_lwmIe (r : CfgReg) (d : Word) (P : Port) : (shadowWrite r d P).lwmIe = P.lwmIe := rfl
@[simp] theorem shadowWrite_txdoneIe (r : CfgReg) (d : Word) (P : Port) : (shadowWrite r d P).txdoneIe = P.txdoneIe := rfl
@[simp] theorem shadowWrite_txdoneFlag (r : CfgReg) (d : Word) (P : Port) : (shadowWrite r d P).txdoneFlag = P.txdoneFlag := rfl
@[simp] theorem shadowWrite_starved (r : CfgReg) (d : Word) (P : Port) : (shadowWrite r d P).starved = P.starved := rfl
@[simp] theorem shadowWrite_tdPending (r : CfgReg) (d : Word) (P : Port) : (shadowWrite r d P).tdPending = P.tdPending := rfl
@[simp] theorem shadowWrite_padOut (r : CfgReg) (d : Word) (P : Port) : (shadowWrite r d P).padOut = P.padOut := rfl
@[simp] theorem shadowWrite_errBusy (r : CfgReg) (d : Word) (P : Port) : (shadowWrite r d P).errBusy = P.errBusy := rfl
@[simp] theorem shadowWrite_errUnderrun (r : CfgReg) (d : Word) (P : Port) : (shadowWrite r d P).errUnderrun = P.errUnderrun := rfl
@[simp] theorem shadowWrite_done (r : CfgReg) (d : Word) (P : Port) : (shadowWrite r d P).done = P.done := rfl
@[simp] theorem shadowWrite_tableValid (r : CfgReg) (d : Word) (P : Port) : (shadowWrite r d P).tableValid = P.tableValid := rfl
@[simp] theorem shadowWrite_cur (r : CfgReg) (d : Word) (P : Port) : (shadowWrite r d P).cur = P.cur := rfl
@[simp] theorem shadowWrite_rd (r : CfgReg) (d : Word) (P : Port) : (shadowWrite r d P).rd = P.rd := rfl
@[simp] theorem shadowWrite_fill (r : CfgReg) (d : Word) (P : Port) : (shadowWrite r d P).fill = P.fill := rfl
@[simp] theorem shadowWrite_remain (r : CfgReg) (d : Word) (P : Port) : (shadowWrite r d P).remain = P.remain := rfl
@[simp] theorem shadowWrite_next (r : CfgReg) (d : Word) (P : Port) : (shadowWrite r d P).next = P.next := rfl
@[simp] theorem shadowWrite_lookups (r : CfgReg) (d : Word) (P : Port) : (shadowWrite r d P).lookups = P.lookups := rfl
@[simp] theorem shadowWrite_frames (r : CfgReg) (d : Word) (P : Port) : (shadowWrite r d P).frames = P.frames := rfl
@[simp] theorem shadowWrite_table (r : CfgReg) (d : Word) (P : Port) : (shadowWrite r d P).table = P.table := rfl
@[simp] theorem shadowWrite_stage (r : CfgReg) (d : Word) (P : Port) : (shadowWrite r d P).stage = P.stage := rfl
@[simp] theorem shadowWrite_trace (r : CfgReg) (d : Word) (P : Port) : (shadowWrite r d P).trace = P.trace := rfl
@[simp] theorem shadowWrite_lat (r : CfgReg) (d : Word) (P : Port) : (shadowWrite r d P).lat = P.lat := rfl
@[simp] theorem shadowWrite_corrupt (r : CfgReg) (d : Word) (P : Port) : (shadowWrite r d P).corrupt = P.corrupt := rfl

end Sys2Proof.Machine
end

