-- ==== Sys2Proof/Laws/Ops.lean ====
section
/-! SUPPORT. For each shared operation, once, everything it can do: ports, commands, the window. The provers cite these
instead of unfolding the operations. -/

namespace Sys2Proof.Machine

/-! ### Ports -/

theorem hasPort_iff (s : State) (p : PortId) : s.hasPort p = true ↔ p.toNat < s.ports.length := by
  simp [State.hasPort]

/-- P[p] after it is replaced. -/
theorem port_setPort_same (s : State) (p : PortId) (P : Port) (h : p.toNat < s.ports.length) :
    (s.setPort p P).port p = P := by
  simp [State.port, State.setPort, h]

/-- Every other port is unchanged. -/
theorem port_setPort_ne (s : State) {p q : PortId} (P : Port) (h : q ≠ p) :
    (s.setPort p P).port q = s.port q := by
  have hne : p.toNat ≠ q.toNat := fun e => h (BitVec.eq_of_toNat_eq e.symm)
  simp [State.port, State.setPort, hne]

@[simp] theorem setPort_ports_length (s : State) (p : PortId) (P : Port) :
    (s.setPort p P).ports.length = s.ports.length := by simp

@[simp] theorem setPort_hasPort (s : State) (p q : PortId) (P : Port) :
    (s.setPort p P).hasPort q = s.hasPort q := by simp [State.hasPort]

theorem setPort_setPort (s : State) (p : PortId) (P Q : Port) :
    (s.setPort p P).setPort p Q = s.setPort p Q := by simp [State.setPort]

theorem setPort_port_self (s : State) (p : PortId) (h : p.toNat < s.ports.length) :
    s.setPort p (s.port p) = s := by
  simp [State.setPort, State.port, h]

/-- P[p] of two states with the same ports. -/
theorem port_congr {s t : State} (h : t.ports = s.ports) (p : PortId) : t.port p = s.port p := by
  simp [State.port, h]

@[simp] theorem report_port (s : State) (c : ResultCode) (p q : PortId) : (s.report c p).port q = s.port q := rfl

@[simp] theorem advance_port (s : State) (q : PortId) : s.advance.port q = s.port q := rfl

/-- A machine's port is one of its list. -/
theorem port_mem (s : State) (p : PortId) (h : p.toNat < s.ports.length) : s.port p ∈ s.ports := by
  simp [State.port, h]

/-- An agent's execution answers a next state only for a port the machine has. -/
theorem onAgent_next {s t : State} {p : PortId} {r : Res} (h : onAgent s p r = .next t) :
    p.toNat < s.ports.length ∧ r = .next t := by
  unfold onAgent at h
  split at h
  · next hp => exact ⟨(hasPort_iff s p).1 hp, h⟩
  · cases h

theorem onAgent_eq (s : State) (p : PortId) (r : Res) (h : p.toNat < s.ports.length) : onAgent s p r = r := by
  simp [onAgent, (hasPort_iff s p).2 h]

/-- A port command does its own work on a port the machine has, and answers ILLEGAL on any other. -/
theorem portCommand_cases (p : PortId) (s : State) (r : Res) :
    (p.toNat < s.ports.length ∧ portCommand p s r = r) ∨
    (s.ports.length ≤ p.toNat ∧ portCommand p s r = .next (s.report .illegal p)) := by
  unfold portCommand
  by_cases h : p.toNat < s.ports.length
  · exact .inl ⟨h, by simp [(hasPort_iff s p).2 h]⟩
  · exact .inr ⟨by omega, by simp [State.hasPort, h, illegalOutcome, finish]⟩

/-- An operation answers a next state exactly when it did not fault. -/
@[simp] theorem answer_next (e : Except Fault State) (t : State) : answer e = .next t ↔ e = .ok t := by
  cases e <;> simp [answer]

@[simp] theorem closeActivation_ok (p : PortId) (f : Port → Port) (e : Except Fault State) (t : State) :
    closeActivation p f e = .ok t ↔ ∃ s, e = .ok s ∧ t = s.setPort p (activationEnd (f (s.port p))) := by
  cases e <;> simp [closeActivation, eq_comm]

/-! ### The window -/

theorem nextIndex_toNat (w : Nat) (i : Pos) (hw : w ≤ 65535) (hi : i.toNat < w) :
    (nextIndex w i).toNat = (i.toNat + 1) % w := by
  unfold nextIndex
  split
  · next h => simp [h, Nat.sub_add_cancel (show 1 ≤ w by omega)]
  · next h =>
    rw [BitVec.toNat_add, Nat.mod_eq_of_lt (a := i.toNat + 1) (by omega)]
    simp
    omega

@[simp] theorem setSym_port (s : State) (i : Nat) (w : Word) (p : PortId) : (s.setSym i w).port p = s.port p := rfl

/-- All that a PutSym which does not fault can do (42_encoder_engine.md R182). -/
theorem putSym_ok {p : PortId} {w : Word} {s t : State} (h : putSym p w s = .ok t) :
    (s.port p).fill.toNat ≠ s.par.w ∧
    t = (s.setPort p (pushed s.par.w (s.port p))).setSym (symIndex s.par.w p (s.port p).cur.toNat) w := by
  unfold putSym at h
  split at h
  · cases h
  · next hne => cases h; exact ⟨hne, rfl⟩

/-- PutSym faults exactly on a full window (42_encoder_engine.md R182). -/
theorem putSym_error {p : PortId} {w : Word} {s : State} {r : Fault} :
    putSym p w s = .error r ↔ (s.port p).fill.toNat = s.par.w ∧ r = .windowOverflow := by
  unfold putSym
  split
  · next h => simp [h, eq_comm]
  · next h => simp [h]

/-- What window writes leave alone, whatever the words: everything but symbol RAM and CUR and FILL of port p; and
symbol RAM keeps its canonical form. -/
structure WindowFrame (p : PortId) (s t : State) : Prop where
  rest : t = { s with ports := t.ports, symRam := t.symRam }
  length : t.ports.length = s.ports.length
  other : ∀ q, q ≠ p → t.port q = s.port q
  port : p.toNat < s.ports.length →
    t.port p = { s.port p with cur := (t.port p).cur, fill := (t.port p).fill }
  wf : cellsWf s.symRam = true → cellsWf t.symRam = true

theorem WindowFrame.refl (p : PortId) (s : State) : WindowFrame p s s :=
  ⟨rfl, rfl, fun _ _ => rfl, fun _ => rfl, id⟩

theorem WindowFrame.trans {p : PortId} {s t u : State} (h1 : WindowFrame p s t) (h2 : WindowFrame p t u) :
    WindowFrame p s u where
  rest := by
    have a := h1.rest
    have b := h2.rest
    rw [a] at b
    exact b
  length := h2.length.trans h1.length
  other := fun q hq => (h2.other q hq).trans (h1.other q hq)
  port := fun (hp : p.toNat < s.ports.length) => by
    have a := h1.port hp
    have b := h2.port (by rw [h1.length]; exact hp)
    rw [a] at b
    exact b
  wf := fun h => h2.wf (h1.wf h)

/-- Window writes change no parameter. -/
theorem WindowFrame.par {p : PortId} {s t : State} (h : WindowFrame p s t) : t.par = s.par := by rw [h.rest]

theorem putSym_frame {p : PortId} {w : Word} {s t : State} (h : putSym p w s = .ok t) : WindowFrame p s t := by
  obtain ⟨-, rfl⟩ := putSym_ok h
  refine ⟨rfl, by simp, fun q hq => ?_, fun hp => ?_, fun hw => cellsWf_cellWrite _ _ _ hw⟩
  · rw [setSym_port, port_setPort_ne s _ hq]
  · rw [setSym_port, port_setPort_same s p _ hp]; rfl

/-- All that window writes which do not fault leave alone. -/
theorem putSyms_frame {p : PortId} {ws : List Word} {s t : State} (h : putSyms p ws s = .ok t) :
    WindowFrame p s t := by
  induction ws generalizing s with
  | nil => cases h; exact WindowFrame.refl p _
  | cons w ws ih =>
    simp only [putSyms] at h
    split at h
    · next s' hs => exact (putSym_frame hs).trans (ih h)
    · cases h

/-- The only fault of window writes is WINDOW_OVERFLOW. -/
theorem putSyms_error {p : PortId} {ws : List Word} {s : State} {r : Fault} (h : putSyms p ws s = .error r) :
    r = .windowOverflow := by
  induction ws generalizing s with
  | nil => cases h
  | cons w ws ih =>
    simp only [putSyms] at h
    split at h
    · next s' hs => exact ih h
    · next r' hs => cases h; exact (putSym_error.1 hs).2

/-- Window writes of one list after another. -/
theorem putSyms_append (p : PortId) (us vs : List Word) (s : State) :
    putSyms p (us ++ vs) s =
      match putSyms p us s with
      | .ok s' => putSyms p vs s'
      | .error r => .error r := by
  induction us generalizing s with
  | nil => rfl
  | cons w us ih =>
    simp only [List.cons_append, putSyms]
    cases putSym p w s with
    | ok s' => exact ih s'
    | error r => rfl

/-- One PutSym with room: where the word goes, and what the port is after it. -/
theorem putSym_room {p : PortId} {s : State} (w : Word) (hp : p.toNat < s.ports.length) (hw : s.par.w ≤ 65535)
    (hcur : (s.port p).cur.toNat < s.par.w) (hroom : (s.port p).fill.toNat + 1 ≤ s.par.w) :
    ∃ t, putSym p w s = .ok t ∧ (t.port p).cur.toNat = ((s.port p).cur.toNat + 1) % s.par.w ∧
      (t.port p).fill.toNat = (s.port p).fill.toNat + 1 ∧
      ∀ a, cellRead t.symRam a =
        if a = symIndex s.par.w p (s.port p).cur.toNat then some w else cellRead s.symRam a := by
  refine ⟨_, by rw [putSym, if_neg (by omega)], ?_, ?_, fun a => cellRead_cellWrite _ _ _ _⟩
  · rw [setSym_port, port_setPort_same s p _ hp, pushed_cur, nextIndex_toNat _ _ hw hcur]
  · rw [setSym_port, port_setPort_same s p _ hp, pushed_fill, BitVec.toNat_add]
    simp
    omega

/-- Places of a window of `w` words that are less than `w` apart are different. -/
theorem window_place_ne {w c i j : Nat} (hij : i < j) (hj : j < i + w) : (c + i) % w ≠ (c + j) % w := by
  intro h
  have hm : (j - i) % w = 0 := by
    have := (Nat.modEq_iff_dvd' (show c + i ≤ c + j by omega)).1 h
    rw [show c + j - (c + i) = j - i by omega] at this
    exact Nat.mod_eq_zero_of_dvd this
  rw [Nat.mod_eq_of_lt (by omega)] at hm
  omega

/-- Window writes with room for all of them: each word goes to its place after CUR, every other symbol RAM word is left
alone, and CUR and FILL advance by the number of words (42_encoder_engine.md R182). -/
theorem putSyms_room {p : PortId} {s : State} (ws : List Word) (hp : p.toNat < s.ports.length)
    (hw : s.par.w ≤ 65535) (hcur : (s.port p).cur.toNat < s.par.w)
    (hroom : (s.port p).fill.toNat + ws.length ≤ s.par.w) :
    ∃ t, putSyms p ws s = .ok t ∧
      (t.port p).cur.toNat = ((s.port p).cur.toNat + ws.length) % s.par.w ∧
      (t.port p).fill.toNat = (s.port p).fill.toNat + ws.length ∧
      (∀ k, k < ws.length →
        cellRead t.symRam (symIndex s.par.w p (((s.port p).cur.toNat + k) % s.par.w)) = ws[k]?) ∧
      ∀ a, (∀ k, k < ws.length → a ≠ symIndex s.par.w p (((s.port p).cur.toNat + k) % s.par.w)) →
        cellRead t.symRam a = cellRead s.symRam a := by
  induction ws generalizing s with
  | nil => exact ⟨s, rfl, by simp [Nat.mod_eq_of_lt hcur], by simp, by simp, fun _ _ => rfl⟩
  | cons w ws ih =>
    simp only [List.length_cons] at hroom
    obtain ⟨u, hu, ucur, ufill, uram⟩ := putSym_room w hp hw hcur (by omega)
    have hf := putSym_frame hu
    have hpar := hf.par
    obtain ⟨t, ht, tcur, tfill, tnew, told⟩ :=
      ih (s := u) (hf.length ▸ hp) (hpar ▸ hw) (by rw [ucur, hpar]; exact Nat.mod_lt _ (by omega))
        (by rw [ufill, hpar]; omega)
    rw [hpar] at tcur tnew told
    have hplace : ∀ k, ((u.port p).cur.toNat + k) % s.par.w = ((s.port p).cur.toNat + (k + 1)) % s.par.w := by
      intro k
      rw [ucur, Nat.mod_add_mod]
      congr 1
      omega
    refine ⟨t, by simp [putSyms, hu, ht], ?_, by rw [tfill, ufill]; simp; omega, ?_, ?_⟩
    · rw [tcur, hplace, List.length_cons]
    · intro k hk
      cases k with
      | zero =>
        rw [told _ ?_, uram, if_pos (by simp [Nat.mod_eq_of_lt hcur])]
        · rfl
        · intro j hj hne
          rw [hplace] at hne
          have := window_place_ne (w := s.par.w) (c := (s.port p).cur.toNat) (i := 0) (j := j + 1)
            (by omega) (by omega)
          simp only [symIndex] at hne
          omega
      | succ k =>
        rw [← hplace, tnew k (by simpa using hk)]
        rfl
    · intro a ha
      rw [told a (fun k hk => by rw [hplace]; exact ha (k + 1) (by simp; omega)), uram, if_neg]
      have := ha 0 (by simp)
      rwa [Nat.add_zero, Nat.mod_eq_of_lt hcur] at this

end Sys2Proof.Machine
end

