-- ==== Sys2Proof/Laws/Configuration.lean ====
section
/-! SUPPORT. What Validate and putting a configuration in force do, port by port. -/

namespace Sys2Proof.Machine

@[simp] theorem fixPorts_length (par : Config.Params) (n : BitVec 8) (i : Nat) (cs : List PortConfig) :
    (fixPorts par n i cs).length = cs.length := by
  induction cs generalizing i with
  | nil => rfl
  | cons c cs ih => simp [fixPorts, ih]

/-- Port `k`'s correction is by its own index. -/
theorem fixPorts_getElem? (par : Config.Params) (n : BitVec 8) (i k : Nat) (cs : List PortConfig) :
    (fixPorts par n i cs)[k]? = (cs[k]?).map (fixPort par n (i + k)) := by
  induction cs generalizing i k with
  | nil => simp [fixPorts]
  | cons c cs ih =>
    cases k with
    | zero => simp [fixPorts]
    | succ k =>
      simp only [fixPorts, List.getElem?_cons_succ, ih]
      congr 2
      omega

/-- No port needs a correction exactly when each does not, by its own index. -/
theorem portsBad_eq_false (par : Config.Params) (n : BitVec 8) (i : Nat) (cs : List PortConfig) :
    portsBad par n i cs = false ↔ ∀ k c, cs[k]? = some c → portBad par n (i + k) c = false := by
  induction cs generalizing i with
  | nil => simp [portsBad]
  | cons c cs ih =>
    simp only [portsBad, Bool.or_eq_false_iff, ih]
    constructor
    · rintro ⟨h0, h1⟩ k d hk
      cases k with
      | zero => simp at hk; subst hk; simpa using h0
      | succ k => simp at hk; rw [show i + (k + 1) = i + 1 + k by omega]; exact h1 k d hk
    · intro h
      refine ⟨by simpa using h 0 c (by simp), fun k d hk => ?_⟩
      rw [show i + 1 + k = i + (k + 1) by omega]
      exact h (k + 1) d (by simpa using hk)

/-- Installing a configuration for each port changes each port by its own. -/
theorem installAll_getElem? (cs : List PortConfig) (Ps : List Port) (h : cs.length = Ps.length) (k : Nat) :
    (installAll cs Ps)[k]? = (cs[k]?).bind fun c => (Ps[k]?).map (install c) := by
  induction cs generalizing Ps k with
  | nil => cases Ps with
    | nil => simp [installAll]
    | cons P Ps => simp at h
  | cons c cs ih =>
    cases Ps with
    | nil => simp at h
    | cons P Ps =>
      cases k with
      | zero => simp [installAll]
      | succ k => simpa [installAll] using ih Ps (by simpa using h) k

@[simp] theorem installAll_length (cs : List PortConfig) (Ps : List Port) :
    (installAll cs Ps).length = Ps.length := by
  induction cs generalizing Ps with
  | nil => cases Ps <;> simp [installAll]
  | cons c cs ih => cases Ps <;> simp [installAll, ih]

@[simp] theorem validate_ports_length (par : Config.Params) (cfg : FullConfig) :
    (validate par cfg).1.ports.length = cfg.ports.length := by simp [validate]

/-- P[p] after a validated configuration is put in force (40_driver_interface.md R127, R129). -/
theorem putInForce_port (s : State) (cfg : FullConfig) (a : Bool) (p : PortId)
    (h : cfg.ports.length = s.ports.length) (hp : p.toNat < s.ports.length) :
    ∃ c, cfg.ports[p.toNat]? = some c ∧ (putInForce s cfg a).port p = install c (s.port p) := by
  obtain ⟨c, hc⟩ : ∃ c, cfg.ports[p.toNat]? = some c := ⟨cfg.ports[p.toNat], by simp [h, hp]⟩
  refine ⟨c, hc, ?_⟩
  simp only [State.port, putInForce_ports, installAll_getElem? _ _ h, hc]
  simp [hp]

@[simp] theorem beginSetup_par (s : State) : (beginSetup s).par = s.par := rfl

@[simp] theorem beginSetup_begun (s : State) : (beginSetup s).begun = true := rfl

@[simp] theorem beginSetup_symRam (s : State) : (beginSetup s).symRam = s.symRam := rfl

@[simp] theorem beginSetup_hostMem (s : State) : (beginSetup s).hostMem = s.hostMem := rfl

@[simp] theorem beginSetup_ports_length (s : State) : (beginSetup s).ports.length = s.ports.length := by
  simp [beginSetup]

@[simp] theorem applyConfig_par (s : State) : (applyConfig s).par = s.par := rfl

@[simp] theorem applyConfig_begun (s : State) : (applyConfig s).begun = s.begun := rfl

@[simp] theorem applyConfig_symRam (s : State) : (applyConfig s).symRam = s.symRam := rfl

@[simp] theorem applyConfig_hostMem (s : State) : (applyConfig s).hostMem = s.hostMem := rfl

@[simp] theorem applyConfig_ports_length (s : State) : (applyConfig s).ports.length = s.ports.length := by
  simp [applyConfig]

end Sys2Proof.Machine
end

