-- ==== Sys2Proof/Laws/Filler.lean ====
section
/-! SUPPORT. What the filler's shared operations do: EncodeByte as window writes of one list of words, and all that a refill
leaves alone. -/

namespace Sys2Proof.Machine

/-- A port whose lookup count is `n` more. -/
def addLookups (n : Nat) (P : Port) : Port := { P with lookups := P.lookups + BitVec.ofNat 32 n }

/-- The two words of each group's entry, in turn (41_symbol_table.md R165). -/
def groupWords (t : SymTable) : List (BitVec 2) → List Word
  | [] => []
  | v :: vs => (tableEntry t v).w0 :: (tableEntry t v).w1 :: groupWords t vs

@[simp] theorem groupWords_length (t : SymTable) (vs : List (BitVec 2)) :
    (groupWords t vs).length = 2 * vs.length := by
  induction vs with
  | nil => rfl
  | cons v vs ih => simp [groupWords, ih]; omega

/-- A change of a port that keeps CUR and FILL, and commutes with a PutSym's own, can be made before or after it. -/
theorem putSym_setPort (p : PortId) (w : Word) (s : State) (f : Port → Port) (hp : p.toNat < s.ports.length)
    (hcur : ∀ P, (f P).cur = P.cur) (hfill : ∀ P, (f P).fill = P.fill)
    (hpush : ∀ P, pushed s.par.w (f P) = f (pushed s.par.w P)) :
    putSym p w (s.setPort p (f (s.port p))) =
      match putSym p w s with
      | .ok t => .ok (t.setPort p (f (t.port p)))
      | .error r => .error r := by
  unfold putSym
  rw [port_setPort_same s p _ hp, hfill, hcur, setPort_par, hpush]
  by_cases h : (s.port p).fill.toNat = s.par.w
  · simp [h]
  · simp only [h, if_false, setPort_setPort, setSym_port, port_setPort_same s p _ hp]
    congr 1
    simp [State.setSym, State.setPort]

/-- The same for window writes. -/
theorem putSyms_setPort (p : PortId) (ws : List Word) (s : State) (f : Port → Port)
    (hp : p.toNat < s.ports.length) (hcur : ∀ P, (f P).cur = P.cur) (hfill : ∀ P, (f P).fill = P.fill)
    (hpush : ∀ w P, pushed w (f P) = f (pushed w P)) :
    putSyms p ws (s.setPort p (f (s.port p))) =
      match putSyms p ws s with
      | .ok t => .ok (t.setPort p (f (t.port p)))
      | .error r => .error r := by
  induction ws generalizing s with
  | nil => rfl
  | cons w ws ih =>
    simp only [putSyms]
    rw [putSym_setPort p w s f hp hcur hfill (hpush _)]
    cases hs : putSym p w s with
    | ok t => exact ih t (by rw [(putSym_frame hs).length]; exact hp)
    | error r => rfl

/-- Groups in turn are window writes of their words, after the lookups are counted (41_symbol_table.md R164, R165). -/
theorem encodeGroups_eq (p : PortId) (vs : List (BitVec 2)) (s : State) (hp : p.toNat < s.ports.length) :
    encodeGroups p vs s =
      putSyms p (groupWords (s.port p).table vs) (s.setPort p (addLookups vs.length (s.port p))) := by
  induction vs generalizing s with
  | nil =>
    have : addLookups 0 (s.port p) = s.port p := by simp [addLookups]
    simp [encodeGroups, groupWords, putSyms, this, setPort_port_self s p hp]
  | cons v vs ih =>
    have hsplit : groupWords (s.port p).table (v :: vs) =
        [(tableEntry (s.port p).table v).w0, (tableEntry (s.port p).table v).w1] ++
          groupWords (s.port p).table vs := rfl
    have hcount : addLookups (v :: vs).length (s.port p) =
        addLookups vs.length (countLookup (s.port p)) := by
      simp only [addLookups, countLookup, List.length_cons, Port.mk.injEq, true_and, and_true]
      rw [BitVec.ofNat_add, BitVec.add_comm (BitVec.ofNat 32 vs.length), BitVec.add_assoc]
      rfl
    have hp' : p.toNat < (s.setPort p (countLookup (s.port p))).ports.length := by simpa using hp
    have hport := port_setPort_same s p (countLookup (s.port p)) hp
    have hbig := putSyms_setPort p
      [(tableEntry (s.port p).table v).w0, (tableEntry (s.port p).table v).w1]
      (s.setPort p (countLookup (s.port p))) (addLookups vs.length) hp' (fun _ => rfl) (fun _ => rfl)
      (fun _ _ => rfl)
    rw [setPort_setPort, hport] at hbig
    rw [encodeGroups, encodeGroup, hsplit, putSyms_append, hcount, hbig]
    cases hs : putSyms p [(tableEntry (s.port p).table v).w0, (tableEntry (s.port p).table v).w1]
        (s.setPort p (countLookup (s.port p))) with
    | error r => rfl
    | ok t =>
      have hf := putSyms_frame hs
      have ht : p.toNat < t.ports.length := by rw [hf.length]; exact hp'
      have htab : (t.port p).table = (s.port p).table := by
        rw [hf.port hp', hport]; rfl
      simp only [ih t ht, htab]

/-- EncodeByte is four lookups and the window writes of its eight words (41_symbol_table.md R165). -/
theorem encodeByte_eq (p : PortId) (b : Byte) (s : State) (hp : p.toNat < s.ports.length) :
    encodeByte p b s =
      putSyms p (groupWords (s.port p).table (byteGroups b)) (s.setPort p (addLookups 4 (s.port p))) :=
  encodeGroups_eq p (byteGroups b) s hp

/-- What a refill leaves alone: everything but symbol RAM and CUR, FILL, LOOKUPS, NEXT and REMAIN of port p; and symbol
RAM keeps its canonical form. -/
structure RefillFrame (p : PortId) (s t : State) : Prop where
  rest : t = { s with ports := t.ports, symRam := t.symRam }
  length : t.ports.length = s.ports.length
  other : ∀ q, q ≠ p → t.port q = s.port q
  port : p.toNat < s.ports.length →
    t.port p = { s.port p with
      cur := (t.port p).cur, fill := (t.port p).fill, lookups := (t.port p).lookups,
      next := (t.port p).next, remain := (t.port p).remain }
  wf : cellsWf s.symRam = true → cellsWf t.symRam = true

theorem RefillFrame.refl (p : PortId) (s : State) : RefillFrame p s s :=
  ⟨rfl, rfl, fun _ _ => rfl, fun _ => rfl, id⟩

theorem RefillFrame.trans {p : PortId} {s t u : State} (h1 : RefillFrame p s t) (h2 : RefillFrame p t u) :
    RefillFrame p s u where
  rest := by
    have a := h1.rest
    have b := h2.rest
    rw [a] at b
    exact b
  length := h2.length.trans h1.length
  other := fun q hq => (h2.other q hq).trans (h1.other q hq)
  port := fun (hp : p.toNat < s.ports.length) => by
    have a := h1.port hp
    have b := h2.port (by rw [h1.length]; exact hp)
    rw [a] at b
    exact b
  wf := fun h => h2.wf (h1.wf h)

theorem WindowFrame.refill {p : PortId} {s t : State} (h : WindowFrame p s t) : RefillFrame p s t where
  rest := h.rest
  length := h.length
  other := h.other
  port := fun (hp : p.toNat < s.ports.length) => by rw [h.port hp]
  wf := h.wf

/-- A change of port p's counters alone. -/
theorem RefillFrame.ofSetPort (p : PortId) (s : State) (f : Port → Port)
    (hf : ∀ P, f P = { P with
      cur := (f P).cur, fill := (f P).fill, lookups := (f P).lookups, next := (f P).next,
      remain := (f P).remain }) :
    RefillFrame p s (s.setPort p (f (s.port p))) where
  rest := rfl
  length := by simp
  other := fun q hq => port_setPort_ne s _ hq
  port := fun hp => by rw [port_setPort_same s p _ hp]; exact hf _
  wf := id

/-- All that an EncodeByte that does not fault leaves alone. -/
theorem encodeByte_frame {p : PortId} {b : Byte} {s t : State} (hp : p.toNat < s.ports.length)
    (h : encodeByte p b s = .ok t) : RefillFrame p s t := by
  rw [encodeByte_eq p b s hp] at h
  exact (RefillFrame.ofSetPort p s (addLookups 4) fun _ => rfl).trans (putSyms_frame h).refill

/-- All that a refill that does not fault leaves alone. -/
theorem refillBytes_frame {p : PortId} {n : Nat} {s t : State} (hp : p.toNat < s.ports.length)
    (h : refillBytes p n s = .ok t) : RefillFrame p s t := by
  induction n generalizing s with
  | zero => cases h; exact RefillFrame.refl p _
  | succ n ih =>
    simp only [refillBytes] at h
    split at h
    · next u hu =>
      have h1 := encodeByte_frame hp hu
      have h2 := RefillFrame.ofSetPort p u countByte fun _ => rfl
      refine (h1.trans h2).trans (ih ?_ h)
      rw [(h1.trans h2).length]
      exact hp
    · cases h

/-- The only fault of a refill is WINDOW_OVERFLOW. -/
theorem refillBytes_error {p : PortId} {n : Nat} {s : State} {r : Fault} (hp : p.toNat < s.ports.length)
    (h : refillBytes p n s = .error r) : r = .windowOverflow := by
  induction n generalizing s with
  | zero => cases h
  | succ n ih =>
    simp only [refillBytes] at h
    split at h
    · next u hu =>
      refine ih ?_ h
      rw [setPort_ports_length, (encodeByte_frame hp hu).length]
      exact hp
    · next r' hr =>
      cases h
      rw [encodeByte_eq p _ s hp] at hr
      exact putSyms_error hr

end Sys2Proof.Machine
end

