-- ==== Sys2Proof/Laws/PerInstr.lean ====
section
/-! SUPPORT. Statements about every instruction as syntax, one lemma per constructor. -/

namespace Sys2Proof.Laws

/-- The encoder never writes a form the decoder rejects: a well-formed instruction's encoding is some instruction's
(20_memory.md R77 is the only ground of rejection). Which instruction it is, is an obligation. -/
def Encodable.Statement (i : Instr) : Prop := i.wf = true → ∃ j, decode (encode i) = .ok j

/-- A command word written to CMD is an instruction. -/
theorem decode_commandCode (w : Word) : ∃ j, decode (commandCode w) = .ok j :=
  ⟨decodeBus true cmdOffset w, rfl⟩

theorem Encodable.hostWr (offset data : Word) : Encodable.Statement (.hostWr offset data) := by
  intro h
  have ha : aligned offset = true := by simp [Instr.wf] at h; exact h.1
  exact ⟨_, by simp [encode, decode, ha]; rfl⟩

theorem Encodable.hostRd (offset : Word) : Encodable.Statement (.hostRd offset) := by
  intro h
  have ha : aligned offset = true := by simpa [Instr.wf] using h
  exact ⟨_, by simp [encode, decode, ha]; rfl⟩

theorem Encodable.nop : Encodable.Statement (.nop) := fun _ => decode_commandCode _

theorem Encodable.begin : Encodable.Statement (.begin) := fun _ => decode_commandCode _

theorem Encodable.apply : Encodable.Statement (.apply) := fun _ => decode_commandCode _

theorem Encodable.arm (p : PortId) : Encodable.Statement (.arm p) := fun _ => decode_commandCode _

theorem Encodable.clrerr (p : PortId) : Encodable.Statement (.clrerr p) := fun _ => decode_commandCode _

theorem Encodable.teardown (p : PortId) : Encodable.Statement (.teardown p) := fun _ => decode_commandCode _

theorem Encodable.illegalCmd (w : Word) : Encodable.Statement (.illegalCmd w) := fun _ => decode_commandCode _

theorem Encodable.illegalCmdHigh (w : Word) : Encodable.Statement (.illegalCmdHigh w) := fun _ => decode_commandCode _

theorem Encodable.symEnd (p : PortId) (lvl1 : Bool) (dur1 : Dur) (lvl0 : Bool) : Encodable.Statement (.symEnd p lvl1 dur1 lvl0) := fun _ => ⟨_, rfl⟩

theorem Encodable.symHalfEnd (p : PortId) (lvl1 lvl0 : Bool) (dur0 : Dur) : Encodable.Statement (.symHalfEnd p lvl1 lvl0 dur0) := fun _ => ⟨_, rfl⟩

theorem Encodable.symEmit (p : PortId) (lvl1 : Bool) (dur1 : Dur) (lvl0 : Bool) (dur0 : Dur) : Encodable.Statement (.symEmit p lvl1 dur1 lvl0 dur0) := fun _ => ⟨_, rfl⟩

theorem Encodable.symUnderrun (p : PortId) : Encodable.Statement (.symUnderrun p) := fun _ => ⟨_, rfl⟩

theorem Encodable.fillStart (p : PortId) (z : Bool) : Encodable.Statement (.fillStart p z) := fun _ => ⟨_, rfl⟩

theorem Encodable.fillRefill (p : PortId) : Encodable.Statement (.fillRefill p) := fun _ => ⟨_, rfl⟩

theorem Encodable.fillEnd (p : PortId) : Encodable.Statement (.fillEnd p) := fun _ => ⟨_, rfl⟩

theorem Encodable.fillDone (p : PortId) (z : Bool) : Encodable.Statement (.fillDone p z) := fun _ => ⟨_, rfl⟩

theorem Encodable.spuriousCause (p : PortId) (e : BitVec 4) : Encodable.Statement (.spuriousCause p e) := fun _ => ⟨_, rfl⟩

end Sys2Proof.Laws
end

