-- ==== Sys2Proof/Laws/Step.lean ====
section
/-! SUPPORT. What a step can do, once: the turns it takes, what each agent fetches, and what each instruction's answer can
be. -/

namespace Sys2Proof.Machine

/-- All that a step which answers a next state can have done. -/
theorem step_cases {s t : State} (h : step s = .next t) :
    (fetch s = .wait ∧ t = s) ∨ (fetch s = .pass ∧ t = s.advance) ∨
    (∃ i, fetch s = .instr i ∧ exec i s.advance = .next t) ∨
    (∃ a b, fetch s = .memWrite a b ∧ a.toNat < s.par.hostMemSize ∧
      t = { s.advance with hostMem := cellWrite s.hostMem a.toNat b }) ∨
    (fetch s = .reset ∧ t = resetStep s.advance) := by
  unfold step at h
  split at h
  · next i hi => exact .inr (.inr (.inl ⟨i, hi, h⟩))
  · next hf => cases h; exact .inl ⟨hf, rfl⟩
  · next hf => cases h; exact .inr (.inl ⟨hf, rfl⟩)
  · cases h
  · next a b hf =>
    unfold memWriteStep at h
    split at h
    · next ha => cases h; exact .inr (.inr (.inr (.inl ⟨a, b, hf, ha, rfl⟩)))
    · cases h
  · next hf => cases h; exact .inr (.inr (.inr (.inr ⟨hf, rfl⟩)))

theorem fetchCode_instr {c : Code} {i : Instr} (h : fetchCode c = .instr i) : decode c = .ok i := by
  unfold fetchCode at h
  split at h
  · next j hj => cases h; exact hj
  · cases h

/-- Where a fetched instruction comes from: an access of the host, a cause of a filler, or a word of a transmitter. -/
theorem fetch_instr {s : State} {i : Instr} (h : fetch s = .instr i) :
    (∃ we bytes addr data rest, s.agenda = .host we bytes addr data :: rest ∧
      decode (.bus we bytes (busOffset s.par addr) data) = .ok i) ∨
    (∃ p e rest, s.agenda = .filler p :: rest ∧ p.toNat < s.ports.length ∧
      activationEntry s.par (s.port p) = some e ∧ i = decodeEvent p e) ∨
    (∃ p rest, s.agenda = .transmitter p :: rest ∧ p.toNat < s.ports.length ∧ txEnabled (s.port p) = true ∧
      txAdmitted s.par (s.port p) = true ∧
      (((s.port p).fill = 0 ∧ i = .symUnderrun p) ∨
       ((s.port p).fill ≠ 0 ∧ i = decodeSym p (symRead s p (s.port p).rd.toNat)))) := by
  unfold fetch at h
  split at h
  · cases h
  · next we bytes addr data rest ha => exact .inl ⟨we, bytes, addr, data, rest, ha, fetchCode_instr h⟩
  · next p rest ha =>
    refine .inr (.inl ?_)
    unfold fillerCode at h
    split at h
    · next hp =>
      cases he : activationEntry s.par (s.port p) with
      | none => simp [he, fetchAgent] at h
      | some e =>
        simp only [he, Option.map_some, fetchAgent] at h
        have := fetchCode_instr h
        simp only [decode, Except.ok.injEq] at this
        exact ⟨p, e, rest, ha, (hasPort_iff s p).1 hp, he, this.symm⟩
    · simp [fetchAgent] at h
  · next p rest ha =>
    refine .inr (.inr ?_)
    unfold transmitterCode at h
    split at h
    · next hc =>
      simp only [Bool.and_eq_true] at hc
      refine ⟨p, rest, ha, (hasPort_iff s p).1 hc.1.1, hc.1.2, hc.2, ?_⟩
      split at h
      · next hz =>
        have := fetchCode_instr (c := .drained p) h
        simp only [decode, Except.ok.injEq] at this
        exact .inl ⟨hz, this.symm⟩
      · next hz =>
        have := fetchCode_instr (c := .sym p (symRead s p (s.port p).rd.toNat)) h
        simp only [decode, Except.ok.injEq] at this
        exact .inr ⟨hz, this.symm⟩
    · simp [fetchAgent] at h
  · cases h
  · cases h

/-- Activation entry: a cause is pending, and the vector is that of the port's fields (60_exceptions.md R260). -/
theorem activationEntry_some {par : Config.Params} {P : Port} {e : BitVec 4} (h : activationEntry par P = some e) :
    causePending par P = true ∧ e = eventVector (txdonePending P) (stateCode P.state) (P.remain == 0) := by
  unfold activationEntry at h
  split at h
  · next hc => cases h; exact ⟨hc, rfl⟩
  · cases h

/-- All that an ARM can answer (42_encoder_engine.md R186). -/
theorem execArm_cases (p : PortId) (s : State) :
    (s.ports.length ≤ p.toNat ∧ execArm p s = .next (s.report .illegal p)) ∨
    (p.toNat < s.ports.length ∧
      ((s.begun = false ∧ execArm p s = .next (s.report .notBegun p)) ∨
       (s.begun = true ∧ (s.port p).state ≠ .idle ∧
         execArm p s = .next ((s.setPort p (markBusy (s.port p))).report .busy p)) ∨
       (s.begun = true ∧ (s.port p).state = .idle ∧ (s.port p).cfg.en = false ∧
         execArm p s = .next (s.report .disabled p)) ∨
       (s.begun = true ∧ (s.port p).state = .idle ∧ (s.port p).cfg.en = true ∧
         beyondHostMem s.par (s.port p).cfg = true ∧ execArm p s = .next (s.report .addrErr p)) ∨
       (s.begun = true ∧ (s.port p).state = .idle ∧ (s.port p).cfg.en = true ∧
         beyondHostMem s.par (s.port p).cfg = false ∧
         execArm p s = .next ((s.setPort p (armPort s.hostMem (s.port p))).report .ok p)))) := by
  rcases portCommand_cases p s
    (if !s.begun then finish s .notBegun p
     else if (s.port p).state != .idle then finish (s.setPort p (markBusy (s.port p))) .busy p
     else if !(s.port p).cfg.en then finish s .disabled p
     else if beyondHostMem s.par (s.port p).cfg then finish s .addrErr p
     else finish (s.setPort p (armPort s.hostMem (s.port p))) .ok p) with ⟨hp, h⟩ | ⟨hp, h⟩
  · refine .inr ⟨hp, ?_⟩
    simp only [execArm, h]
    by_cases h1 : s.begun = true <;> by_cases h2 : (s.port p).state = .idle <;>
      by_cases h3 : (s.port p).cfg.en = true <;> by_cases h4 : beyondHostMem s.par (s.port p).cfg = true <;>
      simp_all [finish]
  · exact .inl ⟨hp, h⟩

/-- All that a TEARDOWN can answer (40_driver_interface.md R145). -/
theorem execTeardown_cases (p : PortId) (s : State) :
    (s.ports.length ≤ p.toNat ∧ execTeardown p s = .next (s.report .illegal p)) ∨
    (p.toNat < s.ports.length ∧
      ((s.begun = false ∧ execTeardown p s = .next (s.report .notBegun p)) ∨
       (s.begun = true ∧ (s.port p).state ≠ .idle ∧
         execTeardown p s = .next ((s.setPort p (deferTeardown (s.port p))).report .deferred p)) ∨
       (s.begun = true ∧ (s.port p).state = .idle ∧
         execTeardown p s = .next ((s.setPort p (release (s.port p))).report .ok p)))) := by
  rcases portCommand_cases p s
    (if !s.begun then finish s .notBegun p
     else if (s.port p).state != .idle then finish (s.setPort p (deferTeardown (s.port p))) .deferred p
     else finish (s.setPort p (release (s.port p))) .ok p) with ⟨hp, h⟩ | ⟨hp, h⟩
  · refine .inr ⟨hp, ?_⟩
    simp only [execTeardown, h]
    by_cases h1 : s.begun = true <;> by_cases h2 : (s.port p).state = .idle <;> simp_all [finish]
  · exact .inl ⟨hp, h⟩

/-- All that an APPLY can answer (40_driver_interface.md R129). -/
theorem execApply_cases (s : State) :
    (s.begun = false ∧ execApply s = .next (s.report .notBegun 0)) ∨
    (s.begun = true ∧ someBusy s = true ∧ execApply s = .next (s.report .busy 0)) ∨
    (s.begun = true ∧ someBusy s = false ∧ execApply s = .next ((applyConfig s).report .ok 0)) := by
  unfold execApply
  by_cases h1 : s.begun = true <;> by_cases h2 : someBusy s = true <;> simp_all [finish]

/-- All that a BEGIN can answer (40_driver_interface.md R127). -/
theorem execBegin_cases (s : State) :
    (s.begun = true ∧ execBegin s = .next (s.report .ok 0)) ∨
    (s.begun = false ∧ execBegin s = .next ((beginSetup s).report .ok 0)) := by
  unfold execBegin
  by_cases h : s.begun = true <;> simp_all [finish]

/-- FILL_DONE's port after it, with and without a deferred TEARDOWN (42_encoder_engine.md R207). -/
theorem frameDone_cases (P : Port) :
    (P.tdPending = true ∧ frameDone P = release { completeFrame P with tdPending := false }) ∨
    (P.tdPending = false ∧ frameDone P = completeFrame P) := by
  unfold frameDone
  by_cases h : P.tdPending = true <;> simp_all

end Sys2Proof.Machine
end

