-- ==== Sys2Proof/Tests/Slice0.lean ====
section
/-! SUPPORT. Tests: words decoded, ill-formed terms refused, single steps against 95_test_vectors.md, and for each
obligation with hypotheses a concrete case that meets them. Expected values are the spec's. -/

namespace Sys2Proof.Tests

open Sys2Proof Sys2Proof.Machine

/-! ### Decoding: words written out from spec/30_encoding.md -/

/-- R89: WE = 1, OFFSET = PGPIO of port 0, DATA = 2 (R120's worked example). -/
theorem test_decode_hostWr : decode (.bus true 4 0x104#32 0x00000002#32) = .ok (.hostWr 0x104#32 2#32) := by decide

/-- R89: WE = 0, OFFSET = RESULT. -/
theorem test_decode_hostRd : decode (.bus false 4 0x01C#32 0#32) = .ok (.hostRd 0x01C#32) := by decide

/-- R106: `nop` is 0x00000000. -/
theorem test_decode_nop : decode (.bus true 4 0x018#32 0x00000000#32) = .ok .nop := by decide

/-- R106: `begin` is 0x00000001. -/
theorem test_decode_begin : decode (.bus true 4 0x018#32 0x00000001#32) = .ok .begin := by decide

/-- R106: `apply` is 0x00000002. -/
theorem test_decode_apply : decode (.bus true 4 0x018#32 0x00000002#32) = .ok .apply := by decide

/-- R106: `arm 1` is (1 << 8) | 3. -/
theorem test_decode_arm : decode (.bus true 4 0x018#32 0x00000103#32) = .ok (.arm 1) := by decide

/-- V2: CLRERR of port 15. -/
theorem test_decode_clrerr : decode (.bus true 4 0x018#32 0x00000F04#32) = .ok (.clrerr 15) := by decide

/-- R106: `teardown 1`. -/
theorem test_decode_teardown : decode (.bus true 4 0x018#32 0x00000105#32) = .ok (.teardown 1) := by decide

/-- V2: RSV0 = 1, RSV1 bit 12, RSV1 bit 31, NOP with PORT = 1, reserved OP 6. -/
theorem test_decode_illegalCmd :
    decode (.bus true 4 0x018#32 0x00000013#32) = .ok (.illegalCmd 0x00000013#32) ∧
    decode (.bus true 4 0x018#32 0x00001003#32) = .ok (.illegalCmd 0x00001003#32) ∧
    decode (.bus true 4 0x018#32 0x80000001#32) = .ok (.illegalCmd 0x80000001#32) ∧
    decode (.bus true 4 0x018#32 0x00000100#32) = .ok (.illegalCmd 0x00000100#32) ∧
    decode (.bus true 4 0x018#32 0x00000006#32) = .ok (.illegalCmd 0x00000006#32) := by decide

/-- V2: reserved OP F. -/
theorem test_decode_illegalCmdHigh :
    decode (.bus true 4 0x018#32 0x0000000F#32) = .ok (.illegalCmdHigh 0x0000000F#32) := by decide

/-- V6: SYM_END ignores LVL0 and DUR1. -/
theorem test_decode_symEnd :
    decode (.sym 1 0x80008000#32) = .ok (.symEnd 1 true 0 true) ∧
    decode (.sym 1 0x12340000#32) = .ok (.symEnd 1 false 0x1234 false) := by decide

/-- V6: SYM_HALF_END. -/
theorem test_decode_symHalfEnd :
    decode (.sym 0 0x00008005#32) = .ok (.symHalfEnd 0 false true 5) ∧
    decode (.sym 0 0x80000005#32) = .ok (.symHalfEnd 0 true false 5) := by decide

/-- V6: S1 and S1', the 1 bit under TI, not inverted and inverted. -/
theorem test_decode_symEmit :
    decode (.sym 0 0x00048008#32) = .ok (.symEmit 0 false 4 true 8) ∧
    decode (.sym 0 0x80040008#32) = .ok (.symEmit 0 true 4 false 8) := by decide

/-- R230: the step with no word. -/
theorem test_decode_symUnderrun : decode (.drained 1) = .ok (.symUnderrun 1) := by decide

/-- R100: 0 01 x. -/
theorem test_decode_fillStart :
    decode (.event 1 0b0010#4) = .ok (.fillStart 1 false) ∧
    decode (.event 1 0b0011#4) = .ok (.fillStart 1 true) := by decide

/-- R100: 0 10 0. -/
theorem test_decode_fillRefill : decode (.event 1 0b0100#4) = .ok (.fillRefill 1) := by decide

/-- R100: 0 10 1. -/
theorem test_decode_fillEnd : decode (.event 1 0b0101#4) = .ok (.fillEnd 1) := by decide

/-- R100: 1 11 x. -/
theorem test_decode_fillDone :
    decode (.event 1 0b1110#4) = .ok (.fillDone 1 false) ∧
    decode (.event 1 0b1111#4) = .ok (.fillDone 1 true) := by decide

/-- V5: spurious vectors. -/
theorem test_decode_spuriousCause :
    decode (.event 0 0b0000#4) = .ok (.spuriousCause 0 0b0000#4) ∧
    decode (.event 0 0b0110#4) = .ok (.spuriousCause 0 0b0110#4) ∧
    decode (.event 0 0b0111#4) = .ok (.spuriousCause 0 0b0111#4) ∧
    decode (.event 0 0b1010#4) = .ok (.spuriousCause 0 0b1010#4) := by decide

/-- V1.6: a 16-bit access, and an access at offset 0x002, are no instructions. -/
theorem test_decode_rejects :
    decode (.bus true 2 0x104#32 0#32) = .error .accessWidth ∧
    decode (.bus false 4 0x002#32 0#32) = .error .misaligned := by decide

/-- The rows of spec/opcode_table.json whose own bits tell them apart, numbered as the table numbers them. -/
theorem test_decodeTableWord :
    decodeTableWord 32 0x00000002 = some .apply ∧ decodeTableWord 32 0x00000103 = some (.arm 1) ∧
    decodeTableWord 8 0x06 = some (.illegalCmd 6) ∧ decodeTableWord 8 0x08 = some (.illegalCmdHigh 8) ∧
    decodeTableWord 16 0 = some (.symEnd 0 false 0 false) ∧
    decodeTableWord 32 0x00048008 = some (.symEmit 0 false 4 true 8) ∧
    decodeTableWord 8 0x2 = some (.fillStart 0 false) ∧ decodeTableWord 8 0x4 = some (.fillRefill 0) ∧
    decodeTableWord 8 0x5 = some (.fillEnd 0) ∧ decodeTableWord 8 0xE = some (.fillDone 0 false) ∧
    decodeTableWord 0 0 = some (.symUnderrun 0) := by decide

/-! ### Well-formedness: for each check a term it refuses -/

theorem test_wf_refuses_misaligned_write : (Instr.hostWr 0x102#32 0).wf = false := by decide
theorem test_wf_refuses_write_to_cmd : (Instr.hostWr 0x018#32 0).wf = false := by decide
theorem test_wf_refuses_misaligned_read : (Instr.hostRd 0x001#32).wf = false := by decide
theorem test_wf_refuses_legal_word : (Instr.illegalCmd 0x00000103#32).wf = false := by decide
theorem test_wf_refuses_other_row : (Instr.illegalCmd 0x0000000F#32).wf = false := by decide
theorem test_wf_refuses_low_op : (Instr.illegalCmdHigh 0x00000006#32).wf = false := by decide
theorem test_wf_refuses_half_end_without_dur0 : (Instr.symHalfEnd 0 true true 0).wf = false := by decide
theorem test_wf_refuses_emit_without_dur0 : (Instr.symEmit 0 false 4 true 0).wf = false := by decide
theorem test_wf_refuses_emit_without_dur1 : (Instr.symEmit 0 false 0 true 4).wf = false := by decide
theorem test_wf_refuses_selecting_vector : (Instr.spuriousCause 0 0b0101#4).wf = false := by decide

/-! ### Small states -/

/-- The state an answer gives; `s` where it gives none. -/
def nextOf (r : Res) (s : State) : State :=
  match r with
  | .next t => t
  | .fault _ => s
  | .refused _ => s

/-- An answer is a next state. -/
def isNext : Res → Bool
  | .next _ => true
  | .fault _ => false
  | .refused _ => false

theorem eq_nextOf {r : Res} (s : State) (h : isNext r = true) : r = .next (nextOf r s) := by
  cases r with
  | next t => rfl
  | fault f => simp [isNext] at h
  | refused f => simp [isNext] at h

/-- The state after instructions in turn. -/
def after (is : List Instr) (s : State) : State := nextOf (execAll is s) s

/-- P[p] changed. -/
def onPort (p : PortId) (f : Port → Port) (s : State) : State := s.setPort p (f (s.port p))

/-- `s` with one turn to come. -/
def withTurn (t : Turn) (s : State) : State := { s with agenda := [t] }

/-- After reset and BEGIN (V3.1). -/
def begun : State := after [.begin] State.reset

/-- Program P1 up to its BEGIN: port 0 enabled on GPIO 2, one byte 0xA5 at 0x100. -/
def ready : State :=
  after [.hostWr 0x104 2, .hostWr 0x100 1, .hostWr 0x118 1, .hostWr 0x11C 0x100, .begin]
    { State.reset with hostMem := [(0x100, 0xA5#8)] }

/-- P1 after ARM 0. -/
def armed : State := after [.arm 0] ready

/-- P1 after FILL_START. -/
def streaming : State := after [.fillStart 0 false] armed

/-- P1 after FILL_REFILL. -/
def refilled : State := after [.fillRefill 0] streaming

/-- P1 after the reset word is consumed. -/
def drainedToLwm : State := after [.symEmit 0 false 300 false 300] refilled

/-- P1 after FILL_END. -/
def ending : State := after [.fillEnd 0] drainedToLwm

/-- P1 with only the end marker left. -/
def atMarker : State :=
  onPort 0 (fun P => { P with rd := 10, fill := 1 }) ending

/-- P1 after the end marker is consumed. -/
def sent : State := after [.symEnd 0 false 0 false] atMarker

/-- P1 at its end. -/
def finished : State := after [.fillDone 0 true] sent

/-- A 32-bit status register's value. -/
def reads (s : State) (offset : Nat) : Nat := (hostRead s offset).toNat

/-! ### Single steps -/

/-- V1.1 -/
theorem test_hostWr_shadow :
    (let P := (after [.hostWr 0x108 0xFFFFFFFF] State.reset).port 0
     P.sh.t0h = 0x7FFF ∧ P.sh.t0l = 0x7FFF ∧ P.present = true ∧ P.cfg.t0h = 4) := by decide

/-- V1.4: bit 8 of PGPIO is dropped; V1.2: RESULT is read-only. -/
theorem test_hostWr_reserved_bits :
    ((after [.hostWr 0x104 0x102] State.reset).port 0).sh.gpioId = 2 ∧
    (after [.hostWr 0x01C 0x12345678] State.reset).result = ⟨.ok, 0, false⟩ := by decide

/-- R122's worked example: COUNT after reset reads PORT_LIMIT. -/
theorem test_hostRd_count : (after [.hostRd 0x010] State.reset).busData = 2 := by decide

/-- V1: NAME0, PT0 and PLAT at reset. -/
theorem test_hostRd_reset_values :
    reads State.reset 0x000 = 0x4E455850 ∧ reads State.reset 0x108 = 0x00080004 ∧
    reads State.reset 0x154 = 0x0001012C := by decide

/-- R125's worked example, with ACCEPTED 1. -/
theorem test_nop : reads (after [.nop] begun) 0x01C = 0x00010000 := by decide

/-- V3.1 and R127's worked example. -/
theorem test_begin :
    reads begun 0x01C = 0x00010000 ∧ reads begun 0x120 = 8 ∧ reads begun 0x028 = 1 ∧
    (begun.port 0).table.e1 = ⟨0x00088004, 0x00048008⟩ := by decide

/-- V3.2: a count of 0 is clamped, ACCEPTED 0. -/
theorem test_begin_clamps :
    (let s := after [.hostWr 0x010 0, .begin] State.reset
     reads s 0x010 = 2 ∧ reads s 0x01C = 0) := by decide

/-- V3.6: RESET_COUNT 17 is bounded by W. -/
theorem test_apply_bounds_reset_count :
    (let s := after [.hostWr 0x110 0x0011012C, .apply] begun
     reads s 0x110 = 0x0010012C ∧ reads s 0x01C = 0) := by decide

/-- V3.14: an omitted port list takes the global fields and is not accepted. -/
theorem test_apply_omitted :
    (let s := after [.hostWr 0x010 1, .apply] begun
     reads s 0x010 = 1 ∧ reads s 0x01C = 0) := by decide

/-- R186's worked example. -/
theorem test_arm :
    reads armed 0x120 = 0x99 ∧ (armed.port 0).stage = [0xA5] ∧ reads armed 0x124 = 1 ∧
    reads armed 0x01C = 0x00010000 := by decide

/-- V5.5: SRC + K is summed without wrap. -/
theorem test_arm_addrErr :
    (after [.arm 0] (onPort 0 (fun P => { P with cfg := { P.cfg with src := 0xFFFFFFFF } }) ready)).result.code =
      .addrErr := by decide

/-- V4.2 -/
theorem test_clrerr :
    (let s := onPort 0 (fun P => { P with errBusy := true }) finished
     reads s 0x120 = 0x588 ∧ reads (after [.clrerr 0] s) 0x120 = 0x088) := by decide

/-- V4.5 -/
theorem test_teardown :
    (let s := after [.teardown 0] ready
     reads s 0x01C = 0x00010000 ∧ reads s 0x100 = 0 ∧ reads s 0x104 = 0xFF ∧ reads s 0x120 = 8) := by decide

/-- V4.6, program P5. -/
theorem test_teardown_deferred :
    (let s := after [.teardown 0] streaming
     reads s 0x01C = 0x00010004 ∧ reads s 0x120 = 0xDE) := by decide

/-- V2: ARM with RSV0 = 1 gives ILLEGAL and no ERR_BUSY. -/
theorem test_illegalCmd :
    (let s := after [.illegalCmd 0x13] streaming
     s.result = ⟨.illegal, 0, true⟩ ∧ (s.port 0).errBusy = false) := by decide

/-- R123: PORT is recorded. -/
theorem test_illegalCmdHigh : (after [.illegalCmdHigh 0x10F] State.reset).result = ⟨.illegal, 1, false⟩ := by decide

/-- R232's worked example. -/
theorem test_symEnd :
    (let P := sent.port 0
     P.rd = 11 ∧ P.fill = 0 ∧ P.txActive = false ∧ P.txdoneFlag = true) := by decide

/-- V6: SYM_HALF_END. -/
theorem test_symHalfEnd :
    (let P := (after [.symHalfEnd 0 false true 5] streaming).port 0
     P.trace = [.pulse true 5] ∧ P.txActive = false ∧ P.txdoneFlag = true) := by decide

/-- V6: S1. -/
theorem test_symEmit :
    ((after [.symEmit 0 false 4 true 8] streaming).port 0).trace = [.pulse true 8, .pulse false 4] := by decide

/-- V6: RD wraps from 15 to 0. -/
theorem test_symEmit_wraps :
    (let P := (after [.symEmit 0 false 4 true 8] (onPort 0 (fun P => { P with rd := 15, fill := 9, starved := true }) streaming)).port 0
     P.rd = 0 ∧ P.fill = 8 ∧ P.starved = false) := by decide

/-- V6: an underrun. -/
theorem test_symUnderrun :
    (let P := (after [.symUnderrun 0] streaming).port 0
     P.trace = [.underrun] ∧ P.starved = true ∧ P.errUnderrun = true) := by decide

/-- R192's worked example. -/
theorem test_fillStart :
    reads streaming 0x1000 = 0x012C012C ∧ reads streaming 0x128 = 1 ∧ reads streaming 0x12C = 1 ∧
    (streaming.port 0).state = .streaming ∧ (streaming.port 0).txActive = true := by decide

/-- V5: RESET_COUNT = W fills the window and wraps. -/
theorem test_fillStart_wraps :
    (let s := after [.fillStart 0 false] (onPort 0 (fun P => { P with cfg := { P.cfg with resetCount := 16 } }) armed)
     (s.port 0).cur = 0 ∧ (s.port 0).fill = 16 ∧ lwmPending s.par (s.port 0) = false) := by decide

/-- R196's worked example. -/
theorem test_fillRefill :
    reads refilled 0x1004 = 0x00048008 ∧ reads refilled 0x1008 = 0x00088004 ∧ reads refilled 0x1014 = 0x00088004 ∧
    reads refilled 0x1018 = 0x00048008 ∧ reads refilled 0x12C = 9 ∧ reads refilled 0x134 = 4 := by decide

/-- V5: FILL 0 and REMAIN 5 give two bytes. -/
theorem test_fillRefill_chunk :
    (let s := after [.fillRefill 0]
        (onPort 0 (fun P => { P with cur := 0, fill := 0, remain := 5, stage := [1, 2, 3, 4, 5] }) streaming)
     reads s 0x12C = 16 ∧ reads s 0x124 = 3 ∧ reads s 0x138 = 2) := by decide

/-- R203's worked example. -/
theorem test_fillEnd :
    reads ending 0x1024 = 0x012C012C ∧ reads ending 0x1028 = 0 ∧ reads ending 0x12C = 10 ∧
    reads ending 0x120 = 0xAF := by decide

/-- V5: LATCH_COUNT = 7 wraps the marker to index 0. -/
theorem test_fillEnd_wraps :
    (let s := after [.fillEnd 0]
        (onPort 0 (fun P => { P with cfg := { P.cfg with latchCount := 7, inv := true } }) drainedToLwm)
     (s.port 0).cur = 1 ∧ (s.port 0).fill = 16 ∧ reads s 0x1000 = 0x80008000) := by decide

/-- Program P1's end. -/
theorem test_fillDone :
    reads finished 0x120 = 0x488 ∧ reads finished 0x130 = 1 ∧ reads finished 0x128 = 0x000B000B := by decide

/-- V5: FRAMES wraps, and a deferred TEARDOWN is completed (V4.9). -/
theorem test_fillDone_wraps :
    (let s := after [.fillDone 0 true] (onPort 0 (fun P => { P with frames := 0xFFFFFFFF, tdPending := true }) sent)
     reads s 0x130 = 0 ∧ reads s 0x120 = 0x408 ∧ reads s 0x104 = 0xFF) := by decide

/-- V5: TXDONE pending in Streaming is a spurious cause. -/
theorem test_spuriousCause :
    step (withTurn (.filler 0) (onPort 0 (fun P => { P with txdoneIe := true, txdoneFlag := true }) streaming)) =
      .fault .spuriousCause := by rfl

/-- V6: with SERVICE_BOUND = 1, after FILL_START one transmitter step is admitted and a second is not. -/
theorem test_serviceBound :
    (let s := { streaming with par := { streaming.par with serviceBound := some 1 } }
     fetch (withTurn (.transmitter 0) s) = .instr (.symEmit 0 false 300 false 300) ∧
     fetch (withTurn (.transmitter 0) (after [.symEmit 0 false 300 false 300] s)) = .pass) := by decide

/-- V7.1: DONE_IE raises IRQ at the frame's end. -/
theorem test_irq :
    (let s := onPort 0 (fun P => { P with cfg := { P.cfg with doneIe := true } }) finished
     reads s 0x024 = 1 ∧ reads s 0x028 = 3 ∧ reads (after [.clrerr 0] s) 0x028 = 1) := by decide

/-- A step's own bookkeeping: the turn is taken, and a draw counted. -/
theorem test_step_takes_the_turn :
    (let t := nextOf (step (withTurn (.host true 4 0x018 0x103) ready)) ready
     t.agenda = [] ∧ t.draws = 1 ∧ t.result = ⟨.disabled, 1, true⟩) := by decide

/-! ### Witnesses: for each obligation with hypotheses, concrete values that meet them all -/

/-- What the invariant says of a port's window and counters, in a form that is decided. -/
abbrev WindowFacts (w : Nat) (P : Port) : Prop :=
  P.cur.toNat < w ∧ P.rd.toNat < w ∧ P.fill.toNat ≤ w ∧ P.cur.toNat = (P.rd.toNat + P.fill.toNat) % w ∧
  P.stage.length < 2 ^ 16 ∧ P.next.toNat + P.remain.toNat = P.stage.length ∧
  P.lookups.toNat = 4 * P.next.toNat ∧ (P.state = .idle ∨ P.state = .frameEnd → P.remain = 0)

/-- What the invariant says of a port's enables and state, in a form that is decided. -/
abbrev EngineFacts (begun : Bool) (P : Port) : Prop :=
  ¬(P.lwmIe = true ∧ P.txdoneIe = true) ∧
  (P.state = .idle →
    P.lwmIe = false ∧ P.txdoneIe = false ∧ P.txActive = false ∧ P.txdoneFlag = false ∧ P.fill = 0) ∧
  (P.state = .frameStart → P.lwmIe = true ∧ P.txActive = false ∧ P.txdoneFlag = false ∧ P.fill = 0) ∧
  (P.state = .streaming → P.lwmIe = true ∧ P.txActive = true ∧ P.txdoneFlag = false) ∧
  (P.state = .frameEnd → P.txdoneIe = true ∧ P.lwmIe = false ∧
    (P.txActive = true → P.txdoneFlag = false ∧ P.fill ≠ 0) ∧
    (P.txActive = false → P.txdoneFlag = true ∧ P.fill = 0)) ∧
  (P.state ≠ .idle → P.cfg.en = true ∧ begun = true) ∧ (P.tdPending = true → P.state ≠ .idle)

/-- What the invariant says of a port's configuration, words and latency, in a form that is decided. -/
abbrev WordFacts (s : State) (p : PortId) (P : Port) : Prop :=
  portBad s.par s.n p.toNat P.cfg = false ∧
  (s.begun = true → P.tableValid = true ∧ P.table = buildTable P.cfg ∧ P.padOut = padRule P.cfg) ∧
  (P.state = .streaming → ∀ k < P.fill.toNat, (pendingWord s p k).any emitsWhole = true) ∧
  (P.state = .frameEnd → P.txActive = true →
    (∀ k < P.fill.toNat - 1, (pendingWord s p k).any emitsWhole = true) ∧
    pendingWord s p (P.fill.toNat - 1) = some (endMarker P.cfg)) ∧
  s.par.serviceBound.all (fun bound => decide (P.lat ≤ bound)) = true

theorem portInv_of_facts {s : State} {p : PortId} (hw : WindowFacts s.par.w (s.port p))
    (he : EngineFacts s.begun (s.port p)) (hf : WordFacts s p (s.port p)) : PortInv s p := by
  obtain ⟨h1, h2, h3, h4, h5, h6, h7, h8⟩ := hw
  obtain ⟨e1, e2, e3, e4, e5, e6, e7⟩ := he
  obtain ⟨g1, g2, w1, w2, hl⟩ := hf
  refine ⟨⟨h1, h2, h3, h4⟩, ⟨h5, h6, h7, h8⟩, ⟨e1, e2, e3, e4, e5, e6, e7⟩, ⟨g1, g2⟩, ⟨w1, w2⟩, fun bound hb => ?_⟩
  rw [hb] at hl
  simpa using hl

/-- The invariant of a machine of two ports. -/
theorem inv_of_ports {s : State} (hw : s.par.wf) (hl : s.ports.length = 2)
    (hc : countBad s.ports.length s.n = false) (hm : s.memoryWf) (h0 : PortInv s 0) (h1 : PortInv s 1) : Inv s := by
  refine ⟨hw, by omega, hc, hm, fun p hp => ?_⟩
  rw [hl] at hp
  have : p = 0 ∨ p = 1 := by
    revert hp
    revert p
    decide
  rcases this with rfl | rfl
  · exact h0
  · exact h1

theorem inv_reset : Inv State.reset :=
  inv_of_ports (by decide) (by decide) (by decide) (by decide) (portInv_of_facts (by decide) (by decide) (by decide))
    (portInv_of_facts (by decide) (by decide) (by decide))

theorem inv_begun : Inv begun :=
  inv_of_ports (by decide) (by decide) (by decide) (by decide) (portInv_of_facts (by decide) (by decide) (by decide))
    (portInv_of_facts (by decide) (by decide) (by decide))

theorem inv_streaming : Inv streaming :=
  inv_of_ports (by decide) (by decide) (by decide) (by decide) (portInv_of_facts (by decide) (by decide) (by decide))
    (portInv_of_facts (by decide) (by decide) (by decide))

theorem inv_finished : Inv finished :=
  inv_of_ports (by decide) (by decide) (by decide) (by decide) (portInv_of_facts (by decide) (by decide) (by decide))
    (portInv_of_facts (by decide) (by decide) (by decide))

/-- One instruction of each constructor with a check, each operand at a bound. -/
theorem witness_DecodeUndoesEncode :
    ∀ i ∈ [Instr.hostWr 0xFFFFFFFC 0xFFFFFFFF, .hostRd 0x018, .nop, .arm 15, .illegalCmd 0x13, .illegalCmd 0xFFFFFFF7,
      .illegalCmdHigh 0x8, .illegalCmdHigh 0xFFFFFFFF, .symEnd 15 true 0x7FFF true, .symHalfEnd 0 true false 1,
      .symHalfEnd 0 false true 0x7FFF, .symEmit 15 true 1 false 0x7FFF, .symEmit 15 true 0x7FFF false 1,
      .spuriousCause 15 0b0000, .spuriousCause 15 0b1101], i.wf = true := by decide

theorem witness_DecodedInstructionsAreWellFormed :
    decode (.sym 15 0xFFFFFFFF#32) = .ok (.symEmit 15 true 0x7FFF true 0x7FFF) := by decide

/-- Both cases of the conclusion: a form given back, and a read with DATA on the bus. -/
theorem witness_EncodeUndoesDecode :
    decode (.event 15 0b1111#4) = .ok (.fillDone 15 true) ∧
    decode (.bus false 4 0x01C#32 0xFFFFFFFF#32) = .ok (.hostRd 0x01C) := by decide

/-- The four kinds of turn that execute an instruction. -/
theorem witness_StepRunsTheDecodedInstruction :
    (let s := withTurn (.host true 4 0x104 2) State.reset
     s.agenda = [.host true 4 0x104 2] ∧ decode (.bus true 4 (0x104#32 - s.par.base) 2) = .ok (.hostWr 0x104 2)) ∧
    (let s := withTurn (.filler 0) armed
     s.agenda = [.filler 0] ∧ (0#4).toNat < s.ports.length ∧ activationEntry s.par (s.port 0) = some 0b0010#4 ∧
      decode (.event 0 0b0010#4) = .ok (.fillStart 0 false)) ∧
    (let s := withTurn (.transmitter 0) streaming
     s.agenda = [.transmitter 0] ∧ (0#4).toNat < s.ports.length ∧ txEnabled (s.port 0) = true ∧
      txAdmitted s.par (s.port 0) = true ∧ (s.port 0).fill ≠ 0 ∧
      decode (.sym 0 (symRead s 0 (s.port 0).rd.toNat)) = .ok (.symEmit 0 false 300 false 300)) ∧
    (let s := withTurn (.transmitter 0) (onPort 0 withoutWord streaming)
     s.agenda = [.transmitter 0] ∧ (0#4).toNat < s.ports.length ∧ txEnabled (s.port 0) = true ∧
      txAdmitted s.par (s.port 0) = true ∧ (s.port 0).fill = 0 ∧
      decode (.drained 0) = .ok (.symUnderrun 0)) := by decide

theorem witness_AgentWithoutAStepPasses :
    State.reset.agenda = [] ∧
    (let s := withTurn (.filler 1) begun
     s.agenda = [.filler 1] ∧ (s.port 1).lwmIe = false ∧ (s.port 1).txdoneIe = false) ∧
    (let s := withTurn (.filler 0) refilled
     s.agenda = [.filler 0] ∧ s.par.lwm < (s.port 0).fill.toNat ∧ (s.port 0).txdoneFlag = false) ∧
    (let s := withTurn (.transmitter 0) armed
     s.agenda = [.transmitter 0] ∧ (s.port 0).txActive = false) ∧
    (let s := withTurn (.transmitter 0) (onPort 0 (fun P => { withoutWord P with starved := true }) streaming)
     s.agenda = [.transmitter 0] ∧ (s.port 0).fill = 0 ∧ (s.port 0).starved = true) := by decide

/-- Every clause: both causes, each state, REMAIN at 0 and above, FILL at LWM and one above it. -/
theorem witness_FillerDispatchFollowsTheVector :
    (∀ s ∈ [sent, armed, streaming, drainedToLwm, refilled], (0#4).toNat < s.ports.length ∧
      (withTurn (.filler 0) s).agenda = [.filler 0]) ∧
    (((sent.port 0).txdoneIe && (sent.port 0).txdoneFlag) = true ∧ (sent.port 0).state = .frameEnd) ∧
    (let P := (onPort 0 (fun P => { P with state := .streaming }) sent).port 0
     (P.txdoneIe && P.txdoneFlag) = true ∧ P.state ≠ .frameEnd) ∧
    (let P := armed.port 0
     (P.txdoneIe && P.txdoneFlag) = false ∧ P.lwmIe = true ∧ P.fill.toNat ≤ armed.par.lwm ∧ P.state = .frameStart) ∧
    (let P := streaming.port 0
     (P.txdoneIe && P.txdoneFlag) = false ∧ P.lwmIe = true ∧ P.fill.toNat ≤ streaming.par.lwm ∧
      P.state = .streaming ∧ P.remain ≠ 0) ∧
    (let P := drainedToLwm.port 0
     (P.txdoneIe && P.txdoneFlag) = false ∧ P.lwmIe = true ∧ P.fill.toNat = drainedToLwm.par.lwm ∧
      P.state = .streaming ∧ P.remain = 0) ∧
    (let P := (onPort 0 (fun P => { P with state := .idle }) drainedToLwm).port 0
     (P.txdoneIe && P.txdoneFlag) = false ∧ P.lwmIe = true ∧ P.state = .idle) ∧
    (let P := refilled.port 0
     (P.txdoneIe && P.txdoneFlag) = false ∧ P.fill.toNat = refilled.par.lwm + 1) := by decide

/-- The three classes of words, and the three cases without one. -/
theorem witness_TransmitterDispatchFollowsTheWord :
    (∀ s ∈ [armed, streaming, atMarker], (0#4).toNat < s.ports.length ∧ txAdmitted s.par (s.port 0) = true) ∧
    (armed.port 0).txActive = false ∧
    ((streaming.port 0).txActive = true ∧ (streaming.port 0).fill ≠ 0 ∧
      cellRead streaming.symRam ((0#4).toNat * streaming.par.w + (streaming.port 0).rd.toNat) =
        some 0x012C012C#32) ∧
    ((atMarker.port 0).txActive = true ∧ (atMarker.port 0).fill ≠ 0 ∧
      cellRead atMarker.symRam ((0#4).toNat * atMarker.par.w + (atMarker.port 0).rd.toNat) = some 0#32) ∧
    (let s := streaming.setSym 0 0x00008005#32
     (s.port 0).txActive = true ∧ (s.port 0).fill ≠ 0 ∧
      cellRead s.symRam ((0#4).toNat * s.par.w + (s.port 0).rd.toNat) = some 0x00008005#32) ∧
    (let P := withoutWord (streaming.port 0)
     P.txActive = true ∧ P.fill = 0 ∧ P.starved = false) ∧
    (let P := { withoutWord (streaming.port 0) with starved := true }
     P.txActive = true ∧ P.fill = 0 ∧ P.starved = true) := by decide

/-- 95_test_vectors.md V6, SERVICE_BOUND = 1, at the second transmitter step. -/
theorem witness_ServiceBoundHoldsTheTransmitter :
    (let s := withTurn (.transmitter 0)
        (onPort 0 (fun P => { P with lat := 1 })
          { streaming with par := { streaming.par with serviceBound := some 1 } })
     s.agenda = [.transmitter 0] ∧ (0#4).toNat < s.ports.length ∧ s.par.serviceBound = some 1 ∧
      1 < (if (s.port 0).txdoneIe && (s.port 0).txdoneFlag ||
          (s.port 0).lwmIe && decide ((s.port 0).fill.toNat ≤ s.par.lwm) then (s.port 0).lat + 1
        else (s.port 0).lat)) := by decide

theorem witness_NarrowOrMisalignedAccessIsRefused :
    (withTurn (.host true 2 0x104 0) State.reset).agenda = [.host true 2 0x104 0] ∧
    (let s := withTurn (.host false 4 0x003 0) State.reset
     s.agenda = [.host false 4 0x003 0] ∧ (0x003#32 - s.par.base).toNat % 4 ≠ 0) ∧
    (0x001#32).toNat % 4 ≠ 0 ∧ (0x002#32).toNat % 4 ≠ 0 ∧ (0xFFFFFFFF#32).toNat % 4 ≠ 0 := by decide

/-- The last byte of host memory and the first address beyond it. -/
theorem witness_CollaboratorWritesOneByte :
    (let s := withTurn (.memWrite 0xFFF 1) State.reset
     s.agenda = [.memWrite 0xFFF 1] ∧ (0xFFF#32).toNat < s.par.hostMemSize) ∧
    (let s := withTurn (.memWrite 0x1000 1) State.reset
     s.agenda = [.memWrite 0x1000 1] ∧ s.par.hostMemSize ≤ (0x1000#32).toNat) := by decide

theorem witness_HostReadHasNoSideEffect : (0x000#32).toNat % 4 = 0 ∧ (0xFFFFFFFC#32).toNat % 4 = 0 := by decide

theorem witness_GlobalRegistersRead :
    15 < 16 ∧ (1#4).toNat < State.reset.ports.length ∧ State.reset.ports.length ≤ 2 := by decide

/-- The last port of TI, for the statements about a port's registers and instructions of every state. -/
theorem witness_LastPort : (1#4).toNat < State.reset.ports.length ∧ State.reset.port 1 = State.reset.port 1 := by
  exact ⟨by decide, rfl⟩

theorem witness_ConfigurationRegistersReadEffective : (1#4).toNat < ready.ports.length ∧ (ready.port 1).cfg = (ready.port 1).cfg :=
  ⟨by decide, rfl⟩

theorem witness_StatusRegistersRead : (1#4).toNat < streaming.ports.length ∧ streaming.port 1 = streaming.port 1 :=
  ⟨by decide, rfl⟩

/-- The last table word of the last port, valid or not, and the last symbol RAM word. -/
theorem witness_TableAndSymbolRamReadBack :
    begun.ports.length ≤ 16 ∧ begun.par.w ≤ 65535 ∧ (1#4).toNat < begun.ports.length ∧
    31 < begun.ports.length * begun.par.w ∧ (begun.port 1).tableValid = true ∧
    (State.reset.port 1).tableValid = false := by decide

/-- The first and last reserved offset of each range, and read-only offsets. -/
theorem witness_ReservedReadsZeroAndIgnoredWrites :
    State.reset.ports.length = 2 ∧ State.reset.par.w = 16 ∧
    (∀ o ∈ [0x02C, 0x0FC, 0x13C, 0x17C, 0x180, 0x4FC, 0x500, 0x7FC, 0x840, 0x9FC, 0xA00, 0xFFC, 0x1080, 0xFFFFFFFC],
      o % 4 = 0 ∧ reservedOffset 2 16 o) ∧
    (∀ o ∈ [0x02C, 0x0FC, 0x13C, 0x4FC, 0x1080, 0xFFFFFFFC, 0x000, 0x00C, 0x01C, 0x028, 0x120, 0x178, 0x800, 0x83C,
        0x1000, 0x107C], o % 4 = 0 ∧ ¬writableOffset 2 o) :=
  ⟨by decide, by decide, by decide, by decide⟩

theorem witness_ConfigurationWritesSetShadow : (1#4).toNat < armed.ports.length ∧ armed.port 1 = armed.port 1 :=
  ⟨by decide, rfl⟩

/-- Each condition of R92 at its bound, each command, and PORT on both sides of PORT_LIMIT. -/
theorem witness_CommandWriteRunsTheCommand :
    State.reset.ports.length = 2 ∧
    (6 ≤ 0x00000006 % 16 ∧ 0x00000013 / 2 ^ 4 % 16 ≠ 0 ∧ 0x00001003 / 2 ^ 12 ≠ 0 ∧
      0x00000102 % 16 ≤ 2 ∧ 0x00000102 / 2 ^ 8 % 16 ≠ 0 ∧ 3 ≤ 0x00000203 % 16 ∧ 2 ≤ 0x00000203 / 2 ^ 8 % 16) ∧
    (∀ w ∈ [0x00000000, 0x00000001, 0x00000002],
      w / 2 ^ 4 % 16 = 0 ∧ w / 2 ^ 12 = 0 ∧ w % 16 ≤ 2 ∧ w / 2 ^ 8 % 16 = 0) ∧
    ∀ w ∈ [0x00000103, 0x00000104, 0x00000105],
      w / 2 ^ 4 % 16 = 0 ∧ w / 2 ^ 12 = 0 ∧ 3 ≤ w % 16 ∧ w / 2 ^ 8 % 16 < 2 :=
  ⟨by decide, by decide, by decide, by decide⟩

theorem witness_BeginSetsUpOnce :
    begun.begun = true ∧ State.reset.begun = false ∧
    validate State.reset.par ⟨State.reset.nSh, State.reset.uiSh, State.reset.ports.map Port.sh⟩ =
      ((validate State.reset.par ⟨State.reset.nSh, State.reset.uiSh, State.reset.ports.map Port.sh⟩).1, true) := by
  decide

theorem witness_ApplyPutsTheMergeInForce :
    State.reset.begun = false ∧
    (armed.begun = true ∧ ∃ P ∈ armed.ports, P.state ≠ .idle) ∧
    (begun.begun = true ∧ ∀ P ∈ begun.ports, P.state = .idle) := by decide

theorem witness_ValidateCorrectsByTheRules :
    Config.ti.wf ∧ 1 ≤ (shadowConfig State.reset).ports.length ∧ (shadowConfig State.reset).ports.length ≤ 16 ∧
    (shadowConfig State.reset).ports[1]? = some (PortConfig.reset Config.ti) := by decide

theorem witness_ValidateIsIdempotent :
    Config.ti.wf ∧ (shadowConfig State.reset).ports.length = 2 ∧
    (shadowConfig (State.resetOf 16 Config.ti)).ports.length = 16 := by decide

theorem witness_ConfigurationRoundTrip :
    Inv finished ∧ Inv begun ∧ begun.par = finished.par ∧ begun.ports.length = finished.ports.length ∧
    begun.begun = true ∧ ∀ P ∈ begun.ports, P.state = .idle :=
  ⟨inv_finished, inv_begun, by decide, by decide, by decide, by decide⟩

/-- PORT on both sides of PORT_LIMIT. -/
theorem witness_ClrerrClearsStickyBits :
    (1#4).toNat < State.reset.ports.length ∧ State.reset.ports.length ≤ (2#4).toNat := by decide

/-- PORT on both sides of PORT_LIMIT, and the three cases of a port. -/
theorem witness_TeardownReleasesOrDefers :
    State.reset.ports.length ≤ (2#4).toNat ∧ (1#4).toNat < State.reset.ports.length ∧
    State.reset.begun = false ∧ (streaming.begun = true ∧ (streaming.port 0).state ≠ .idle) ∧
    (ready.begun = true ∧ (ready.port 0).state = .idle) := by decide

/-- The four cases of a port; SRC + K one beyond HOST_MEM_SIZE (V5.3). -/
theorem witness_ArmIsTurnedAwayInOrder :
    State.reset.ports.length ≤ (2#4).toNat ∧ (0#4).toNat < ready.ports.length ∧
    State.reset.begun = false ∧ (armed.begun = true ∧ (armed.port 0).state ≠ .idle) ∧
    (begun.begun = true ∧ (begun.port 0).state = .idle ∧ (begun.port 0).cfg.en = false) ∧
    (let s := onPort 0 (fun P => { P with cfg := { P.cfg with k := 2, src := 0xFFF } }) ready
     s.begun = true ∧ (s.port 0).state = .idle ∧ (s.port 0).cfg.en = true ∧
      (s.port 0).cfg.src.toNat + (s.port 0).cfg.k.toNat = s.par.hostMemSize + 1) := by decide

/-- SRC + K exactly HOST_MEM_SIZE (V5.4). -/
theorem witness_ArmStartsAFrame :
    (let s := onPort 0 (fun P => { P with cfg := { P.cfg with k := 2, src := 0xFFE } }) ready
     (0#4).toNat < s.ports.length ∧ s.begun = true ∧ (s.port 0).state = .idle ∧ (s.port 0).cfg.en = true ∧
      (s.port 0).cfg.src.toNat + (s.port 0).cfg.k.toNat = s.par.hostMemSize) := by decide

/-- Room for exactly RESET_COUNT words (V5: RESET_COUNT = 16 = W), and none to write. -/
theorem witness_FillStartWritesTheResetWords :
    ∀ n ∈ [0#8, 16#8],
      (let s := onPort 0 (fun P => { P with cfg := { P.cfg with resetCount := n } }) armed
       (0#4).toNat < s.ports.length ∧ s.par.w ≤ 65535 ∧ (s.port 0).cur.toNat < s.par.w ∧
        (s.port 0).fill.toNat + (s.port 0).cfg.resetCount.toNat ≤ s.par.w) := by decide

/-- A byte to encode. -/
theorem witness_FillRefillEncodesStagedBytes :
    (0#4).toNat < streaming.ports.length ∧ streaming.par.w ≤ 65535 ∧
    (streaming.port 0).cur.toNat < streaming.par.w ∧ (streaming.port 0).fill.toNat ≤ streaming.par.w ∧
    (streaming.port 0).stage.length < 2 ^ 16 ∧
    (streaming.port 0).next.toNat + (streaming.port 0).remain.toNat = (streaming.port 0).stage.length ∧
    (streaming.port 0).stage[0]? = some 0xA5#8 := by decide

/-- Room for exactly LATCH_COUNT + 1 words (V5: LATCH_COUNT = 7). -/
theorem witness_FillEndWritesLatchAndMarker :
    (let s := onPort 0 (fun P => { P with cfg := { P.cfg with latchCount := 7 } }) drainedToLwm
     (0#4).toNat < s.ports.length ∧ s.par.w ≤ 65535 ∧ (s.port 0).cur.toNat < s.par.w ∧
      (s.port 0).fill.toNat + (s.port 0).cfg.latchCount.toNat + 1 = s.par.w) := by decide

theorem witness_FillDoneReturnsToIdle :
    (0#4).toNat < sent.ports.length ∧ (sent.port 0).tdPending = false ∧
    ((onPort 0 deferTeardown sent).port 0).tdPending = true := by decide

/-- One word too many for FILL_START, and for FILL_END. -/
theorem witness_WindowOverflowFaults :
    (let s := onPort 0 (fun P => { P with fill := 16 }) armed
     (0#4).toNat < s.ports.length ∧ s.par.w ≤ 65535 ∧ (s.port 0).fill.toNat ≤ s.par.w ∧
      (s.port 0).cur.toNat < s.par.w ∧ s.par.w + 1 = (s.port 0).fill.toNat + (s.port 0).cfg.resetCount.toNat) ∧
    (let s := onPort 0 (fun P => { P with cfg := { P.cfg with latchCount := 8 } }) drainedToLwm
     (0#4).toNat < s.ports.length ∧ s.par.w ≤ 65535 ∧ (s.port 0).fill.toNat ≤ s.par.w ∧
      s.par.w + 1 = (s.port 0).fill.toNat + (s.port 0).cfg.latchCount.toNat + 1) := by decide

theorem witness_SpuriousCauseFaults : Inv State.reset := inv_reset

theorem witness_SymEmitAppendsTwoPulses : (0#4).toNat < streaming.ports.length := by decide

theorem witness_EndWordsStopTheTransmitter : (0#4).toNat < atMarker.ports.length := by decide

theorem witness_UnderrunIsRecorded : (0#4).toNat < streaming.ports.length := by decide

/-- FrameEnd with the end marker next. -/
theorem witness_TransmissionEndsOnlyAtTheMarker :
    Inv (withTurn (.transmitter 0) atMarker) ∧
    fetch (withTurn (.transmitter 0) atMarker) = .instr (.symEnd 0 false 0 false) :=
  ⟨inv_of_ports (by decide) (by decide) (by decide) (by decide)
    (portInv_of_facts (by decide) (by decide) (by decide)) (portInv_of_facts (by decide) (by decide) (by decide)),
   by decide⟩

/-- Each case of the pin: unassigned, alone, in a corrupt frame, and shared by two ports. -/
theorem witness_PinAtRestShowsOff :
    (begun.ports.length ≤ 16 ∧ (1#4).toNat < begun.ports.length ∧ (begun.port 1).cfg.gpioId = 0xFF ∧
      (begun.port 1).padOut = false) ∧
    ((∀ q : PortId, q ≠ 0 → q.toNat < ready.ports.length →
        (ready.port q).cfg.gpioId ≠ (ready.port 0).cfg.gpioId) ∧
      (ready.port 0).padOut = true ∧ (ready.port 0).state = .idle) ∧
    ((streaming.port 0).padOut = true ∧ (streaming.port 0).corrupt = false) ∧
    (let P := underrun streaming.par (streaming.port 0)
     P.padOut = true ∧ P.state ≠ .idle ∧ P.corrupt = true) ∧
    (let s := onPort 1 (fun P => { P with cfg := { P.cfg with gpioId := 2 } }) ready
     (1#4 ≠ 0 ∧ (1#4).toNat < s.ports.length ∧ (s.port 1).cfg.gpioId = (s.port 0).cfg.gpioId) ∧
      (s.port 0).cfg.gpioId ≠ 0xFF) := by decide

theorem witness_ResetLeavesTheSpecsValues :
    (State.resetOf 16 Config.ti).ports.length = 16 ∧ (15#4).toNat < 16 ∧
    (State.resetOf 1 Config.ti).ports.length = 1 ∧ (0#4).toNat < 1 := by decide

theorem witness_ResetEventResets : (withTurn .reset streaming).agenda = [.reset] := by decide

theorem witness_ResetMeetsTheInvariant : Config.ti.wf := by decide

/-- The state of a small machine whose first step keeps its invariant: an ARM of the port that is ready. -/
theorem inv_ready : Inv (withTurn (.host true 4 0x018 0x003) ready) :=
  inv_of_ports (by decide) (by decide) (by decide) (by decide) (portInv_of_facts (by decide) (by decide) (by decide))
    (portInv_of_facts (by decide) (by decide) (by decide))

/-- The step of a state with one turn to come, where it answers a next state. -/
def stepped (s : State) : State := nextOf (step s) s

theorem witness_StepKeepsTheInvariant :
    Inv (withTurn (.host true 4 0x018 0x003) ready) ∧
    step (withTurn (.host true 4 0x018 0x003) ready) = .next (stepped (withTurn (.host true 4 0x018 0x003) ready)) :=
  ⟨inv_ready, eq_nextOf _ (by decide)⟩

theorem witness_InvariantExcludesFaults : Inv streaming := inv_streaming

theorem witness_StepKeepsMemoriesCanonical :
    step (withTurn (.filler 0) streaming) = .next (stepped (withTurn (.filler 0) streaming)) ∧
    cellsWf streaming.symRam = true ∧ cellsWf streaming.hostMem = true :=
  ⟨eq_nextOf _ (by decide), by decide, by decide⟩

theorem witness_ParametersNeverChange :
    step (withTurn (.filler 0) streaming) = .next (stepped (withTurn (.filler 0) streaming)) :=
  eq_nextOf _ (by decide)

/-- Each of the four moves, and FILL_REFILL. -/
theorem witness_FrameStatesMoveAlongTheCycle :
    (∀ s ∈ [withTurn (.host true 4 0x018 0x003) ready, withTurn (.filler 0) armed, withTurn (.filler 0) drainedToLwm,
        withTurn (.filler 0) sent],
      isNext (step s) = true ∧ (0#4).toNat < s.ports.length ∧ fetch s ≠ .reset ∧
      ((stepped s).port 0).state ≠ (s.port 0).state) ∧
    fetch (withTurn (.filler 0) streaming) = .instr (.fillRefill 0) ∧
    step (withTurn (.filler 0) streaming) = .next (stepped (withTurn (.filler 0) streaming)) :=
  ⟨by decide, by decide, eq_nextOf _ (by decide)⟩

theorem witness_NoHostAccessDisturbsAFrame :
    (let s := withTurn (.host true 4 0x018 0x005) streaming
     s.agenda = [.host true 4 0x018 0x005] ∧ s.begun = true ∧ (0#4).toNat < s.ports.length ∧
      (s.port 0).state ≠ .idle) ∧
    step (withTurn (.host true 4 0x018 0x005) streaming) =
      .next (stepped (withTurn (.host true 4 0x018 0x005) streaming)) :=
  ⟨by decide, eq_nextOf _ (by decide)⟩

/-- A filler step and a transmitter step. -/
theorem witness_PortsAreIsolated :
    (∀ u ∈ [Turn.filler 0, Turn.transmitter 0], isNext (step (withTurn u streaming)) = true) ∧
    streaming.par.w ≤ 65535 ∧ (streaming.port 0).cur.toNat < streaming.par.w ∧
    ((0#4).toNat + 1) * streaming.par.w ≤ 16 := by decide

theorem witness_FramesIgnoreHostMemory :
    (withTurn (.filler 0) streaming).agenda = [.filler 0] ∧
    (withTurn (.transmitter 0) streaming).agenda = [.transmitter 0] := by decide

/-- Sticky bits that are set, and a step that could clear them: an ARM (V5.8). -/
theorem witness_StickyBitsStayUntilClrerr :
    (let s := withTurn (.host true 4 0x018 0x003)
        (onPort 0 (fun P => { P with errBusy := true, errUnderrun := true, done := true }) ready)
     isNext (step s) = true ∧ (0#4).toNat < s.ports.length ∧ fetch s ≠ .reset ∧ fetch s ≠ .instr (.clrerr 0) ∧
      (s.port 0).errBusy = true ∧ (s.port 0).errUnderrun = true ∧ (s.port 0).done = true) := by decide

/-- BEGIN builds the tables. -/
theorem witness_TablesChangeOnlyWhenAllIdle :
    Inv (withTurn (.host true 4 0x018 0x001) State.reset) ∧
    (let s := withTurn (.host true 4 0x018 0x001) State.reset
     isNext (step s) = true ∧ (1#4).toNat < s.ports.length ∧ fetch s ≠ .reset ∧
      ((stepped s).port 1).table ≠ (s.port 1).table) :=
  ⟨inv_of_ports (by decide) (by decide) (by decide) (by decide)
    (portInv_of_facts (by decide) (by decide) (by decide)) (portInv_of_facts (by decide) (by decide) (by decide)),
   by decide⟩

theorem witness_OnlyTheTransmitterAppendsToTrace :
    (let s := withTurn (.transmitter 0) streaming
     isNext (step s) = true ∧ (0#4).toNat < s.ports.length ∧ fetch s ≠ .reset ∧
      ((stepped s).port 0).trace ≠ (s.port 0).trace) := by decide

/-- A frame of one byte at its FILL_END, and at its FILL_DONE: the steps that leave it in FrameEnd and in Idle. -/
theorem witness_FourLookupsPerStagedByte :
    (∀ s ∈ [withTurn (.filler 0) drainedToLwm, withTurn (.filler 0) sent],
      Inv s ∧ step s = .next (stepped s) ∧ (0#4).toNat < s.ports.length) ∧
    fetch (withTurn (.filler 0) drainedToLwm) = .instr (.fillEnd 0) ∧
    fetch (withTurn (.filler 0) sent) = .instr (.fillDone 0 true) ∧
    ((stepped (withTurn (.filler 0) drainedToLwm)).port 0).state = .frameEnd ∧
    ((stepped (withTurn (.filler 0) sent)).port 0).state = .idle := by
  refine ⟨?_, by decide, by decide, by decide, by decide⟩
  simp only [List.forall_mem_cons, List.not_mem_nil, false_imp_iff, implies_true, and_true]
  exact ⟨⟨inv_of_ports (by decide) (by decide) (by decide) (by decide)
      (portInv_of_facts (by decide) (by decide) (by decide)) (portInv_of_facts (by decide) (by decide) (by decide)),
      eq_nextOf _ (by decide), by decide⟩,
    inv_of_ports (by decide) (by decide) (by decide) (by decide)
      (portInv_of_facts (by decide) (by decide) (by decide)) (portInv_of_facts (by decide) (by decide) (by decide)),
    eq_nextOf _ (by decide), by decide⟩

theorem witness_BusyPortHasAStep :
    Inv streaming ∧ (0#4).toNat < streaming.ports.length ∧ (streaming.port 0).state ≠ .idle :=
  ⟨inv_streaming, by decide, by decide⟩

/-- V6: SERVICE_BOUND = 1 = F_min(0), a port in Streaming with its low-watermark cause pending. -/
theorem witness_NoUnderrunWithinServiceBound :
    (let s := { streaming with par := { streaming.par with serviceBound := some 1 } }
     Inv s ∧ LatencyInv s ∧ (0#4).toNat < s.ports.length ∧ s.par.serviceBound = some 1 ∧
      1 ≤ fMin s.par (s.port 0) ∧ (s.port 0).state = .streaming ∧ lwmPending s.par (s.port 0) = true) :=
  ⟨inv_of_ports (by decide) (by decide) (by decide) (by decide)
    (portInv_of_facts (by decide) (by decide) (by decide)) (portInv_of_facts (by decide) (by decide) (by decide)),
   by unfold LatencyInv; decide, by decide⟩

end Sys2Proof.Tests
end

section
/-! PROOFS. The family 00_scope.md: every step keeps the parameters and the number of ports (R6, R22), and the reset state
meets the invariant (10_state.md R49, 70_reset_and_hazards.md R280). -/

namespace Sys2Proof.Machine

/-! ### The machine a state is of: its parameters and its number of ports (00_scope.md R6, 10_state.md R22) -/

/-- `t` is a state of the same machine as `s`. -/
structure SameMachine (s t : State) : Prop where
  par : t.par = s.par
  length : t.ports.length = s.ports.length

/-- The answer, where it is a next state, is one of the same machine. -/
def KeepsMachine (s : State) (r : Res) : Prop := ∀ t, r = .next t → SameMachine s t

theorem SameMachine.refl (s : State) : SameMachine s s := ⟨rfl, rfl⟩

theorem SameMachine.report {s t : State} (h : SameMachine s t) (c : ResultCode) (p : PortId) :
    SameMachine s (t.report c p) := ⟨h.par, h.length⟩

theorem SameMachine.setPort {s t : State} (h : SameMachine s t) (p : PortId) (P : Port) :
    SameMachine s (t.setPort p P) := ⟨h.par, (setPort_ports_length t p P).trans h.length⟩

/-- Taking a turn off the agenda changes neither. -/
theorem SameMachine.ofAdvance {s t : State} (h : SameMachine s.advance t) : SameMachine s t := ⟨h.par, h.length⟩

theorem sameMachine_beginSetup (s : State) : SameMachine s (beginSetup s) :=
  ⟨beginSetup_par s, beginSetup_ports_length s⟩

theorem sameMachine_applyConfig (s : State) : SameMachine s (applyConfig s) :=
  ⟨applyConfig_par s, applyConfig_ports_length s⟩

theorem sameMachine_resetStep (s : State) : SameMachine s (resetStep s) := ⟨resetStep_par s, by simp⟩

theorem WindowFrame.sameMachine {p : PortId} {s t : State} (h : WindowFrame p s t) : SameMachine s t :=
  ⟨h.par, h.length⟩

theorem RefillFrame.sameMachine {p : PortId} {s t : State} (h : RefillFrame p s t) : SameMachine s t :=
  ⟨by rw [h.rest], h.length⟩

theorem keepsMachine_next {s t : State} (h : SameMachine s t) : KeepsMachine s (.next t) :=
  fun _ hu => by cases hu; exact h

theorem keepsMachine_fault (s : State) (r : Fault) : KeepsMachine s (.fault r) := fun _ h => by cases h

theorem keepsMachine_refused (s : State) (r : Refusal) : KeepsMachine s (.refused r) := fun _ h => by cases h

/-- The end of a command writes RESULT alone. -/
theorem keepsMachine_finish {s t : State} (h : SameMachine s t) (c : ResultCode) (p : PortId) :
    KeepsMachine s (finish t c p) := keepsMachine_next (h.report c p)

theorem keepsMachine_onAgent {s : State} {p : PortId} {r : Res}
    (h : p.toNat < s.ports.length → KeepsMachine s r) : KeepsMachine s (onAgent s p r) := fun t ht =>
  have ⟨hp, hr⟩ := onAgent_next ht
  h hp t hr

/-- An activation keeps the machine if its window writes do. -/
theorem keepsMachine_closeActivation {s : State} {e : Except Fault State} (p : PortId) (f : Port → Port)
    (h : ∀ u, e = .ok u → SameMachine s u) : KeepsMachine s (answer (closeActivation p f e)) := by
  intro t ht
  obtain ⟨u, hu, rfl⟩ := (closeActivation_ok p f e t).1 ((answer_next _ t).1 ht)
  exact (h u hu).setPort p _

/-! ### The host's instructions -/

theorem execBegin_keepsMachine (s : State) : KeepsMachine s (execBegin s) := by
  rcases execBegin_cases s with ⟨-, h⟩ | ⟨-, h⟩ <;> rw [h]
  · exact keepsMachine_finish (.refl s) .ok 0
  · exact keepsMachine_finish (sameMachine_beginSetup s) .ok 0

theorem execApply_keepsMachine (s : State) : KeepsMachine s (execApply s) := by
  rcases execApply_cases s with ⟨-, h⟩ | ⟨-, -, h⟩ | ⟨-, -, h⟩ <;> rw [h]
  · exact keepsMachine_finish (.refl s) .notBegun 0
  · exact keepsMachine_finish (.refl s) .busy 0
  · exact keepsMachine_finish (sameMachine_applyConfig s) .ok 0

theorem execArm_keepsMachine (p : PortId) (s : State) : KeepsMachine s (execArm p s) := by
  rcases execArm_cases p s with
      ⟨-, h⟩ | ⟨-, ⟨-, h⟩ | ⟨-, -, h⟩ | ⟨-, -, -, h⟩ | ⟨-, -, -, -, h⟩ | ⟨-, -, -, -, h⟩⟩ <;> rw [h]
  · exact keepsMachine_finish (.refl s) .illegal p
  · exact keepsMachine_finish (.refl s) .notBegun p
  · exact keepsMachine_finish ((SameMachine.refl s).setPort p _) .busy p
  · exact keepsMachine_finish (.refl s) .disabled p
  · exact keepsMachine_finish (.refl s) .addrErr p
  · exact keepsMachine_finish ((SameMachine.refl s).setPort p _) .ok p

theorem execTeardown_keepsMachine (p : PortId) (s : State) : KeepsMachine s (execTeardown p s) := by
  rcases execTeardown_cases p s with ⟨-, h⟩ | ⟨-, ⟨-, h⟩ | ⟨-, -, h⟩ | ⟨-, -, h⟩⟩ <;> rw [h]
  · exact keepsMachine_finish (.refl s) .illegal p
  · exact keepsMachine_finish (.refl s) .notBegun p
  · exact keepsMachine_finish ((SameMachine.refl s).setPort p _) .deferred p
  · exact keepsMachine_finish ((SameMachine.refl s).setPort p _) .ok p

theorem execClrerr_keepsMachine (p : PortId) (s : State) : KeepsMachine s (execClrerr p s) := by
  unfold execClrerr
  rcases portCommand_cases p s (finish (s.setPort p (clearSticky (s.port p))) .ok p) with ⟨-, h⟩ | ⟨-, h⟩ <;> rw [h]
  · exact keepsMachine_finish ((SameMachine.refl s).setPort p _) .ok p
  · exact keepsMachine_finish (.refl s) .illegal p

theorem executeCommand_keepsMachine (data : Word) (s : State) : KeepsMachine s (executeCommand data s) := by
  unfold executeCommand
  cases commandOf data with
  | nop => exact keepsMachine_finish (.refl s) .ok 0
  | begin => exact execBegin_keepsMachine s
  | apply => exact execApply_keepsMachine s
  | arm p => exact execArm_keepsMachine p s
  | clrerr p => exact execClrerr_keepsMachine p s
  | teardown p => exact execTeardown_keepsMachine p s
  | illegal w => exact keepsMachine_finish (.refl s) .illegal (cmdPort w)
  | illegalHigh w => exact keepsMachine_finish (.refl s) .illegal (cmdPort w)

theorem writeReg_keepsMachine (s : State) (data : Word) (r : Reg) : KeepsMachine s (writeReg s data r) := by
  cases r with
  | cmd => exact executeCommand_keepsMachine data s
  | cfg p r => exact keepsMachine_next ((SameMachine.refl s).setPort p _)
  | _ => exact keepsMachine_next ⟨rfl, rfl⟩

theorem execHostWr_keepsMachine (offset data : Word) (s : State) : KeepsMachine s (execHostWr offset data s) := by
  unfold execHostWr
  split
  · exact writeReg_keepsMachine s data _
  · exact keepsMachine_refused s _

theorem execHostRd_keepsMachine (offset : Word) (s : State) : KeepsMachine s (execHostRd offset s) := by
  unfold execHostRd
  split
  · exact keepsMachine_next ⟨rfl, rfl⟩
  · exact keepsMachine_refused s _

/-! ### The transmitter's and the filler's instructions -/

/-- What an agent does to its own port alone. -/
theorem onAgent_setPort_keepsMachine (s : State) (p : PortId) (P : Port) :
    KeepsMachine s (onAgent s p (.next (s.setPort p P))) :=
  keepsMachine_onAgent fun _ => keepsMachine_next ((SameMachine.refl s).setPort p P)

theorem txStep_keepsMachine (p : PortId) (f : Port → Port) (s : State) : KeepsMachine s (txStep p f s) :=
  onAgent_setPort_keepsMachine s p _

/-- FILL_START and FILL_END: window writes of a list of words, then the port's own change. -/
theorem putSyms_activation_keepsMachine (p : PortId) (f : Port → Port) (ws : List Word) (s : State) :
    KeepsMachine s (onAgent s p (answer (closeActivation p f (putSyms p ws s)))) :=
  keepsMachine_onAgent fun _ => keepsMachine_closeActivation p f fun _ hu => (putSyms_frame hu).sameMachine

theorem execFillRefill_keepsMachine (p : PortId) (s : State) : KeepsMachine s (execFillRefill p s) :=
  keepsMachine_onAgent fun hp => keepsMachine_closeActivation p id fun _ hu => (refillBytes_frame hp hu).sameMachine

theorem execFillDone_keepsMachine (p : PortId) (s : State) : KeepsMachine s (execFillDone p s) :=
  keepsMachine_onAgent fun _ => keepsMachine_closeActivation p frameDone fun _ hu => by cases hu; exact .refl s

/-! ### Every instruction and every step -/

theorem exec_keepsMachine (i : Instr) (s : State) : KeepsMachine s (exec i s) := by
  cases i with
  | hostWr offset data => exact execHostWr_keepsMachine offset data s
  | hostRd offset => exact execHostRd_keepsMachine offset s
  | nop => exact keepsMachine_finish (.refl s) .ok 0
  | begin => exact execBegin_keepsMachine s
  | apply => exact execApply_keepsMachine s
  | arm p => exact execArm_keepsMachine p s
  | clrerr p => exact execClrerr_keepsMachine p s
  | teardown p => exact execTeardown_keepsMachine p s
  | illegalCmd w => exact keepsMachine_finish (.refl s) .illegal (cmdPort w)
  | illegalCmdHigh w => exact keepsMachine_finish (.refl s) .illegal (cmdPort w)
  | symEnd p _ _ _ => exact txStep_keepsMachine p stopTx s
  | symHalfEnd p _ lvl0 dur0 => exact txStep_keepsMachine p (fun P => stopTx (emit [.pulse lvl0 dur0] P)) s
  | symEmit p lvl1 dur1 lvl0 dur0 => exact txStep_keepsMachine p (emit [.pulse lvl0 dur0, .pulse lvl1 dur1]) s
  | symUnderrun p => exact onAgent_setPort_keepsMachine s p _
  | fillStart p _ => exact putSyms_activation_keepsMachine p startFrame _ s
  | fillRefill p => exact execFillRefill_keepsMachine p s
  | fillEnd p => exact putSyms_activation_keepsMachine p endFrame _ s
  | fillDone p _ => exact execFillDone_keepsMachine p s
  | spuriousCause _ _ => exact keepsMachine_fault s .spuriousCause

theorem step_sameMachine {s t : State} (h : step s = .next t) : SameMachine s t := by
  rcases step_cases h with ⟨-, rfl⟩ | ⟨-, rfl⟩ | ⟨i, -, hi⟩ | ⟨a, b, -, -, rfl⟩ | ⟨-, rfl⟩
  · exact .refl t
  · exact (SameMachine.refl _).ofAdvance
  · exact (exec_keepsMachine i s.advance t hi).ofAdvance
  · exact ⟨rfl, rfl⟩
  · exact (sameMachine_resetStep s.advance).ofAdvance

/-- Settles O50: whatever a step does, by its cases, it is the same machine's. -/
theorem parametersNeverChange : Obligations.ParametersNeverChange := by
  unfold Obligations.ParametersNeverChange
  intro s t h
  have hm := step_sameMachine h
  exact ⟨hm.par, hm.length⟩

/-! ### The invariant of a port at reset -/

@[simp] theorem resetOf_ports_length (limit : Nat) (par : Config.Params) :
    (State.resetOf limit par).ports.length = limit := by simp [State.resetOf]

/-- Every port the machine has is at reset. -/
theorem resetOf_port {limit : Nat} (par : Config.Params) {p : PortId} (h : p.toNat < limit) :
    (State.resetOf limit par).port p = Port.reset par := by
  simp [State.port, State.resetOf, h]

theorem countBad_ofNat {limit : Nat} (h1 : 1 ≤ limit) (h16 : limit ≤ 16) :
    countBad limit (BitVec.ofNat 8 limit) = false := by
  have hn : (BitVec.ofNat 8 limit).toNat = limit := by
    rw [BitVec.toNat_ofNat, Nat.mod_eq_of_lt (by omega)]
  simp [countBad, hn]
  omega

theorem windowInv_reset {w : Nat} (par : Config.Params) (hw : 0 < w) : WindowInv w (Port.reset par) where
  cur_lt := hw
  rd_lt := hw
  fill_le := Nat.zero_le w
  cur_eq := (Nat.zero_mod w).symm

theorem counterInv_reset (par : Config.Params) : CounterInv (Port.reset par) where
  staged_lt := by simp [Port.reset]
  next_remain := rfl
  lookups_eq := rfl
  all_encoded := fun _ => rfl

/-- An Idle port at rest: the other three states' clauses do not speak of it. -/
theorem engineInv_reset (par : Config.Params) (begun : Bool) : EngineInv begun (Port.reset par) where
  one_enable := by simp [Port.reset]
  idle := fun _ => ⟨rfl, rfl, rfl, rfl, rfl⟩
  frameStart := fun h => by cases h
  streaming := fun h => by cases h
  frameEnd := fun h => by cases h
  busy_begun := fun h => absurd rfl h
  teardown_busy := fun h => by cases h

/-- What Validate accepts of a port (40_driver_interface.md R132, R133). -/
theorem portBad_eq_false (par : Config.Params) (n : BitVec 8) (idx : Nat) (c : PortConfig) :
    portBad par n idx c = false ↔
      enBad n idx c = false ∧ c.t0h ≠ 0 ∧ c.t0l ≠ 0 ∧ c.t1h ≠ 0 ∧ c.t1l ≠ 0 ∧ c.resetDur ≠ 0 ∧ c.latchDur ≠ 0 ∧
      c.resetCount.toNat ≤ par.w ∧ c.latchCount.toNat ≤ par.w - par.lwm - 1 ∧ c.k.toNat ≤ par.stageCap := by
  simp only [portBad, Bool.or_eq_false_iff, beq_eq_false_iff_ne, decide_eq_false_iff_not, Nat.not_lt, and_assoc]

/-- The defaults of 00_scope.md R6 are in Validate's bounds. -/
theorem portBad_reset {par : Config.Params} (hpar : par.defaultsOk) (n : BitVec 8) (idx : Nat) :
    portBad par n idx (PortConfig.reset par) = false := by
  obtain ⟨h0h, h0l, h1h, h1l, hreset, hlatch, hresetCount, hlatchCount, -, -⟩ := hpar
  have hlatchCap : par.defaultLatchCount.toNat ≤ par.w - par.lwm - 1 := by omega
  exact (portBad_eq_false ..).2
    ⟨rfl, h0h, h0l, h1h, h1l, hreset, hlatch, hresetCount, hlatchCap, Nat.zero_le par.stageCap⟩

/-- Before BEGIN no table or pad is claimed. -/
theorem configInv_reset {par : Config.Params} (hpar : par.defaultsOk) (n : BitVec 8) (idx : Nat) :
    ConfigInv par n false idx (Port.reset par) where
  valid := portBad_reset hpar n idx
  built := fun h => by cases h

/-- An Idle port's window holds no word the invariant speaks of. -/
theorem wordsInv_of_idle {s : State} {p : PortId} (h : (s.port p).state = .idle) : WordsInv s p where
  streaming := fun hs => by rw [h] at hs; cases hs
  frameEnd := fun hs => by rw [h] at hs; cases hs

/-- A port at reset meets the invariant in any machine whose BEGIN is still to come. -/
theorem portInv_of_reset {s : State} {p : PortId} (hpar : s.par.wf) (hbegun : s.begun = false)
    (hport : s.port p = Port.reset s.par) : PortInv s p where
  window := hport ▸ windowInv_reset s.par (by have := hpar.1.2.1; omega)
  counters := hport ▸ counterInv_reset s.par
  engine := hport ▸ engineInv_reset s.par s.begun
  config := by rw [hport, hbegun]; exact configInv_reset hpar.2 s.n p.toNat
  words := wordsInv_of_idle (by rw [hport]; rfl)
  latency := fun bound _ => by rw [hport]; exact Nat.zero_le bound

/-- Settles O46: each clause of the invariant at reset, port by port. -/
theorem resetMeetsTheInvariant : Obligations.ResetMeetsTheInvariant := by
  unfold Obligations.ResetMeetsTheInvariant
  intro limit par h1 h16 hpar
  exact {
    params := hpar
    portLimit := by simp [h1, h16]
    count := by rw [resetOf_ports_length]; exact countBad_ofNat h1 h16
    memory := ⟨rfl, rfl, rfl, rfl⟩
    ports := fun p hp => portInv_of_reset hpar rfl (resetOf_port par (by simpa using hp)) }

end Sys2Proof.Machine
end

section
/-! PROOFS. The family 10_state.md, first part: what each agent's step can do to the state, once for the host's
instructions, once for the transmitter's and once for the filler's. The family's invariants and frames follow from it. -/

namespace Sys2Proof.Machine

/-! ### Answers -/

/-- An answer that is no fault, and a next state only where `Q` holds of it. -/
def Answers (Q : State → Prop) : Res → Prop
  | .next t => Q t
  | .fault _ => False
  | .refused _ => True

theorem Answers.of_next {Q : State → Prop} {r : Res} {t : State} (h : Answers Q r) (hr : r = .next t) : Q t := by
  subst hr; exact h

theorem Answers.ne_fault {Q : State → Prop} {r : Res} (h : Answers Q r) (f : Fault) : r ≠ .fault f := by
  rintro rfl; exact h

theorem Answers.mono {Q R : State → Prop} {r : Res} (h : Answers Q r) (hQR : ∀ t, Q t → R t) : Answers R r := by
  cases r with
  | next t => exact hQR t h
  | fault f => exact h
  | refused f => trivial

/-! ### States that differ in bookkeeping alone -/

/-- `t` is `s` but for RESULT, the global shadow fields and the model's own bookkeeping: the agenda, the draws and the last
bus value. -/
structure SameCore (s t : State) : Prop where
  par : t.par = s.par
  begun : t.begun = s.begun
  n : t.n = s.n
  ports : t.ports = s.ports
  symRam : t.symRam = s.symRam
  hostMem : t.hostMem = s.hostMem

theorem SameCore.refl (s : State) : SameCore s s := ⟨rfl, rfl, rfl, rfl, rfl, rfl⟩

theorem SameCore.trans {s t u : State} (h1 : SameCore s t) (h2 : SameCore t u) : SameCore s u :=
  ⟨h2.par.trans h1.par, h2.begun.trans h1.begun, h2.n.trans h1.n, h2.ports.trans h1.ports, h2.symRam.trans h1.symRam,
    h2.hostMem.trans h1.hostMem⟩

theorem sameCore_advance (s : State) : SameCore s s.advance := ⟨rfl, rfl, rfl, rfl, rfl, rfl⟩

theorem sameCore_report (s : State) (c : ResultCode) (p : PortId) : SameCore s (s.report c p) :=
  ⟨rfl, rfl, rfl, rfl, rfl, rfl⟩

theorem SameCore.port {s t : State} (h : SameCore s t) (p : PortId) : t.port p = s.port p := port_congr h.ports p

/-- A write to a port the machine does not have changes nothing. -/
theorem setPort_of_le (s : State) {p : PortId} (P : Port) (h : s.ports.length ≤ p.toNat) : s.setPort p P = s := by
  simp [State.setPort, List.set_eq_of_length_le h]

/-- P[q] after P[p] is replaced. -/
theorem port_setPort (s : State) (p q : PortId) (P : Port) (hp : p.toNat < s.ports.length) :
    (s.setPort p P).port q = if q = p then P else s.port q := by
  split
  · next h => subst h; exact port_setPort_same s q P hp
  · next h => exact port_setPort_ne s P h

/-! ### The host's instructions -/

theorem aligned_iff (o : Word) : aligned o = true ↔ o.toNat % 4 = 0 := by
  simp [aligned, ← BitVec.toNat_inj]

/-- What the register map has at an offset (10_state.md R50 to R59). -/
theorem regAt_cases (limit w : Nat) (o : Word) :
    (o.toNat < 0x100 ∧ regAt limit w o = globalReg (o.toNat / 4)) ∨
    (0x100 ≤ o.toNat ∧ o.toNat < 0x500 ∧ (o.toNat - 0x100) / 0x40 < limit ∧
      regAt limit w o = bankReg (BitVec.ofNat 4 ((o.toNat - 0x100) / 0x40)) ((o.toNat - 0x100) % 0x40 / 4)) ∨
    (∃ p v j, regAt limit w o = .table p v j) ∨ (∃ i, regAt limit w o = .sym i) ∨ regAt limit w o = .reserved := by
  unfold regAt
  split
  · next h => exact .inl ⟨h, rfl⟩
  · split
    · unfold portReg
      split
      · next hp => exact .inr (.inl ⟨by omega, by omega, hp, rfl⟩)
      · exact .inr (.inr (.inr (.inr rfl)))
    · split
      · exact .inr (.inr (.inr (.inr rfl)))
      · split
        · unfold tableReg
          split
          · exact .inr (.inr (.inl ⟨_, _, _, rfl⟩))
          · exact .inr (.inr (.inr (.inr rfl)))
        · split
          · exact .inr (.inr (.inr (.inr rfl)))
          · split
            · exact .inr (.inr (.inr (.inl ⟨_, rfl⟩)))
            · exact .inr (.inr (.inr (.inr rfl)))

theorem globalReg_eq_cmd {j : Nat} (h : globalReg j = .cmd) : j = 6 := by
  unfold globalReg at h
  split at h <;> simp_all

theorem bankReg_ne_cmd (p : PortId) (j : Nat) : bankReg p j ≠ .cmd := by
  unfold bankReg
  split <;> simp

/-- CMD is the register of its own offset alone (10_state.md R51). -/
theorem regAt_eq_cmd {limit w : Nat} {o : Word} (h : regAt limit w o = .cmd) : o.toNat / 4 = 6 := by
  rcases regAt_cases limit w o with ⟨-, hr⟩ | ⟨-, -, -, hr⟩ | ⟨_, _, _, hr⟩ | ⟨_, hr⟩ | hr <;> rw [hr] at h
  · exact globalReg_eq_cmd h
  · exact absurd h (bankReg_ne_cmd _ _)
  · cases h
  · cases h
  · cases h

/-- What a bus access is decoded to: a read, a write that is no write to CMD, or a command (30_encoding.md R89, R108). -/
theorem decode_bus_cases {we : Bool} {bytes : Nat} {offset data : Word} {i : Instr}
    (h : decode (.bus we bytes offset data) = .ok i) :
    i = .hostRd offset ∨ (i = .hostWr offset data ∧ offset ≠ cmdOffset) ∨ ∃ c, i = commandInstr c := by
  simp only [decode] at h
  split at h
  · cases h
  · split at h
    · simp only [Except.ok.injEq] at h
      subst h
      unfold decodeBus
      split
      · split
        · exact .inr (.inr ⟨_, rfl⟩)
        · next hne => exact .inr (.inl ⟨rfl, hne⟩)
      · exact .inl rfl
    · cases h

/-- What one host instruction can do to one port of `s`: write its shadow, or a command's own change under the command's
conditions (40_driver_interface.md R120, R140, R145, R146; 42_encoder_engine.md R185, R186). -/
inductive HostPortEffect (s : State) (p : PortId) : Instr → Port → Prop
  | shadow (offset data : Word) (r : CfgReg) :
    HostPortEffect s p (.hostWr offset data) (shadowWrite r data (s.port p))
  | busy : s.begun = true → (s.port p).state ≠ .idle → HostPortEffect s p (.arm p) (markBusy (s.port p))
  | arm : s.begun = true → (s.port p).state = .idle → (s.port p).cfg.en = true →
    beyondHostMem s.par (s.port p).cfg = false → HostPortEffect s p (.arm p) (armPort s.hostMem (s.port p))
  | clear : HostPortEffect s p (.clrerr p) (clearSticky (s.port p))
  | defer : s.begun = true → (s.port p).state ≠ .idle →
    HostPortEffect s p (.teardown p) (deferTeardown (s.port p))
  | release : s.begun = true → (s.port p).state = .idle → HostPortEffect s p (.teardown p) (release (s.port p))

/-- What one host instruction can do to `s`: nothing but bookkeeping, one port's change, or BEGIN's and APPLY's. -/
inductive HostEffect (i : Instr) (s t : State) : Prop
  | core : SameCore s t → HostEffect i s t
  | port (p : PortId) (P : Port) : p.toNat < s.ports.length → HostPortEffect s p i P → SameCore (s.setPort p P) t →
    HostEffect i s t
  | begin : i = .begin → s.begun = false → SameCore (beginSetup s) t → HostEffect i s t
  | apply : i = .apply → s.begun = true → someBusy s = false → SameCore (applyConfig s) t → HostEffect i s t

theorem hostEffect_report (i : Instr) (s : State) (c : ResultCode) (p : PortId) : HostEffect i s (s.report c p) :=
  .core (sameCore_report s c p)

theorem hostEffect_port_report {i : Instr} {s : State} {p : PortId} {P : Port} (hp : p.toNat < s.ports.length)
    (h : HostPortEffect s p i P) (c : ResultCode) : HostEffect i s ((s.setPort p P).report c p) :=
  .port p P hp h (sameCore_report _ c p)

theorem execBegin_answers (s : State) : Answers (HostEffect .begin s) (execBegin s) := by
  rcases execBegin_cases s with ⟨-, h⟩ | ⟨hb, h⟩ <;> rw [h]
  · exact hostEffect_report .begin s .ok 0
  · exact .begin rfl hb (sameCore_report _ .ok 0)

theorem execApply_answers (s : State) : Answers (HostEffect .apply s) (execApply s) := by
  rcases execApply_cases s with ⟨-, h⟩ | ⟨-, -, h⟩ | ⟨hb, hi, h⟩ <;> rw [h]
  · exact hostEffect_report .apply s .notBegun 0
  · exact hostEffect_report .apply s .busy 0
  · exact .apply rfl hb hi (sameCore_report _ .ok 0)

theorem execArm_answers (p : PortId) (s : State) : Answers (HostEffect (.arm p) s) (execArm p s) := by
  rcases execArm_cases p s with
      ⟨-, h⟩ | ⟨hp, ⟨-, h⟩ | ⟨hb, hs, h⟩ | ⟨-, -, -, h⟩ | ⟨-, -, -, -, h⟩ | ⟨hb, hs, he, hm, h⟩⟩ <;> rw [h]
  · exact hostEffect_report (.arm p) s .illegal p
  · exact hostEffect_report (.arm p) s .notBegun p
  · exact hostEffect_port_report hp (.busy hb hs) .busy
  · exact hostEffect_report (.arm p) s .disabled p
  · exact hostEffect_report (.arm p) s .addrErr p
  · exact hostEffect_port_report hp (.arm hb hs he hm) .ok

theorem execTeardown_answers (p : PortId) (s : State) : Answers (HostEffect (.teardown p) s) (execTeardown p s) := by
  rcases execTeardown_cases p s with ⟨-, h⟩ | ⟨hp, ⟨-, h⟩ | ⟨hb, hs, h⟩ | ⟨hb, hs, h⟩⟩ <;> rw [h]
  · exact hostEffect_report (.teardown p) s .illegal p
  · exact hostEffect_report (.teardown p) s .notBegun p
  · exact hostEffect_port_report hp (.defer hb hs) .deferred
  · exact hostEffect_port_report hp (.release hb hs) .ok

theorem execClrerr_answers (p : PortId) (s : State) : Answers (HostEffect (.clrerr p) s) (execClrerr p s) := by
  unfold execClrerr
  rcases portCommand_cases p s (finish (s.setPort p (clearSticky (s.port p))) .ok p) with ⟨hp, h⟩ | ⟨-, h⟩ <;> rw [h]
  · exact hostEffect_port_report hp .clear .ok
  · exact hostEffect_report (.clrerr p) s .illegal p

theorem exec_commandInstr_answers (c : Command) (s : State) :
    Answers (HostEffect (commandInstr c) s) (exec (commandInstr c) s) := by
  cases c with
  | nop => exact hostEffect_report .nop s .ok 0
  | begin => exact execBegin_answers s
  | apply => exact execApply_answers s
  | arm p => exact execArm_answers p s
  | clrerr p => exact execClrerr_answers p s
  | teardown p => exact execTeardown_answers p s
  | illegal w => exact hostEffect_report (.illegalCmd w) s .illegal (cmdPort w)
  | illegalHigh w => exact hostEffect_report (.illegalCmdHigh w) s .illegal (cmdPort w)

/-- A write to another register than CMD writes a shadow field or nothing. -/
theorem writeReg_answers (s : State) (offset data : Word) {r : Reg} (hr : r ≠ .cmd) :
    Answers (HostEffect (.hostWr offset data) s) (writeReg s data r) := by
  cases r with
  | cmd => exact absurd rfl hr
  | cfg p r =>
    by_cases hp : p.toNat < s.ports.length
    · exact .port p _ hp (.shadow offset data r) (.refl _)
    · refine .core ?_
      rw [writeCfg, setPort_of_le s _ (by omega)]
      exact .refl s
  | _ => exact .core ⟨rfl, rfl, rfl, rfl, rfl, rfl⟩

theorem execHostWr_answers (s : State) {offset : Word} (data : Word) (h : offset ≠ cmdOffset) :
    Answers (HostEffect (.hostWr offset data) s) (execHostWr offset data s) := by
  unfold execHostWr
  split
  · next ha =>
    refine writeReg_answers s offset data fun hcmd => h ?_
    have hword := regAt_eq_cmd hcmd
    have halign := (aligned_iff offset).1 ha
    exact BitVec.eq_of_toNat_eq (show offset.toNat = 24 by omega)
  · trivial

theorem execHostRd_answers (offset : Word) (s : State) :
    Answers (HostEffect (.hostRd offset) s) (execHostRd offset s) := by
  unfold execHostRd
  split
  · exact .core ⟨rfl, rfl, rfl, rfl, rfl, rfl⟩
  · trivial

/-- All that an instruction decoded from a bus access can answer. -/
theorem exec_bus_answers {we : Bool} {bytes : Nat} {offset data : Word} {i : Instr}
    (h : decode (.bus we bytes offset data) = .ok i) (s : State) : Answers (HostEffect i s) (exec i s) := by
  rcases decode_bus_cases h with rfl | ⟨rfl, hne⟩ | ⟨c, rfl⟩
  · exact execHostRd_answers offset s
  · exact execHostWr_answers s data hne
  · exact exec_commandInstr_answers c s

/-! ### The transmitter's instructions -/

/-- What one transmitter step can do to its port, `w` being the word at RD (43_transmitter.md R232 to R236). -/
inductive TxEffect (par : Config.Params) (w : Word) (P : Port) : Port → Prop
  | underrun : P.fill = 0 → TxEffect par w P (underrun par P)
  | symEnd : P.fill ≠ 0 → symDur0 w = 0 → TxEffect par w P (stopTx (consume par P))
  | symHalfEnd : P.fill ≠ 0 → symDur0 w ≠ 0 → symDur1 w = 0 →
    TxEffect par w P (stopTx (emit [.pulse (symLvl0 w) (symDur0 w)] (consume par P)))
  | symEmit : P.fill ≠ 0 → symDur0 w ≠ 0 → symDur1 w ≠ 0 →
    TxEffect par w P (emit [.pulse (symLvl0 w) (symDur0 w), .pulse (symLvl1 w) (symDur1 w)] (consume par P))

/-- The class of a consumed word (30_encoding.md R97). -/
theorem decodeSym_cases (p : PortId) (w : Word) :
    (symDur0 w = 0 ∧ decodeSym p w = .symEnd p (symLvl1 w) (symDur1 w) (symLvl0 w)) ∨
    (symDur0 w ≠ 0 ∧ symDur1 w = 0 ∧ decodeSym p w = .symHalfEnd p (symLvl1 w) (symLvl0 w) (symDur0 w)) ∨
    (symDur0 w ≠ 0 ∧ symDur1 w ≠ 0 ∧
      decodeSym p w = .symEmit p (symLvl1 w) (symDur1 w) (symLvl0 w) (symDur0 w)) := by
  unfold decodeSym
  by_cases h0 : symDur0 w = 0
  · exact .inl ⟨h0, if_pos h0⟩
  · by_cases h1 : symDur1 w = 0
    · exact .inr (.inl ⟨h0, h1, by rw [if_neg h0, if_pos h1]⟩)
    · exact .inr (.inr ⟨h0, h1, by rw [if_neg h0, if_neg h1]⟩)

/-- A consumed word's instruction completes, and changes its port alone. -/
theorem exec_decodeSym {s : State} {p : PortId} (w : Word) (hp : p.toNat < s.ports.length) (hf : (s.port p).fill ≠ 0) :
    ∃ P, TxEffect s.par w (s.port p) P ∧ exec (decodeSym p w) s = .next (s.setPort p P) := by
  rcases decodeSym_cases p w with ⟨h0, h⟩ | ⟨h0, h1, h⟩ | ⟨h0, h1, h⟩ <;> rw [h]
  · exact ⟨_, .symEnd hf h0, onAgent_eq s p _ hp⟩
  · exact ⟨_, .symHalfEnd hf h0 h1, onAgent_eq s p _ hp⟩
  · exact ⟨_, .symEmit hf h0 h1, onAgent_eq s p _ hp⟩

theorem exec_symUnderrun {s : State} {p : PortId} (w : Word) (hp : p.toNat < s.ports.length)
    (hf : (s.port p).fill = 0) :
    ∃ P, TxEffect s.par w (s.port p) P ∧ exec (.symUnderrun p) s = .next (s.setPort p P) :=
  ⟨_, .underrun hf, onAgent_eq s p _ hp⟩

/-! ### The filler's instructions -/

/-- What an activation does, whatever its window writes: they leave all but port p's window and counters alone, and then
`f` and the end of the activation act on the port (42_encoder_engine.md R192 to R207). -/
structure Activation (p : PortId) (f : Port → Port) (s u t : State) : Prop where
  frame : RefillFrame p s u
  eq : t = u.setPort p (activationEnd (f (u.port p)))

/-- An activation with window writes `e` answers a next state only by way of theirs. -/
theorem closeActivation_activation {s t : State} {p : PortId} {f : Port → Port} {e : Except Fault State}
    (hframe : ∀ u, p.toNat < s.ports.length → e = .ok u → RefillFrame p s u)
    (h : onAgent s p (answer (closeActivation p f e)) = .next t) :
    p.toNat < s.ports.length ∧ ∃ u, e = .ok u ∧ Activation p f s u t := by
  obtain ⟨hp, hr⟩ := onAgent_next h
  obtain ⟨u, hu, rfl⟩ := (closeActivation_ok p f e t).1 ((answer_next _ t).1 hr)
  exact ⟨hp, u, hu, hframe u hp hu, rfl⟩

theorem execFillStart_activation {s t : State} {p : PortId} (h : execFillStart p s = .next t) :
    p.toNat < s.ports.length ∧ ∃ u, putSyms p (resetWords (s.port p).cfg) s = .ok u ∧
      Activation p startFrame s u t :=
  closeActivation_activation (fun _ _ hu => (putSyms_frame hu).refill) h

theorem execFillRefill_activation {s t : State} {p : PortId} (h : execFillRefill p s = .next t) :
    p.toNat < s.ports.length ∧ ∃ u, refillBytes p (refillCount s.par (s.port p)) s = .ok u ∧
      Activation p id s u t :=
  closeActivation_activation (fun _ hp hu => refillBytes_frame hp hu) h

theorem execFillEnd_activation {s t : State} {p : PortId} (h : execFillEnd p s = .next t) :
    p.toNat < s.ports.length ∧ ∃ u, putSyms p (endingWords (s.port p).cfg) s = .ok u ∧
      Activation p endFrame s u t :=
  closeActivation_activation (fun _ _ hu => (putSyms_frame hu).refill) h

theorem execFillDone_activation {s t : State} {p : PortId} (h : execFillDone p s = .next t) :
    p.toNat < s.ports.length ∧ Activation p frameDone s s t := by
  obtain ⟨hp, u, hu, ha⟩ := closeActivation_activation (e := .ok s)
    (fun _ _ hu => by cases hu; exact RefillFrame.refl p s) h
  cases hu
  exact ⟨hp, ha⟩

/-- The instruction an event vector selects, by its three fields (30_encoding.md R100). -/
def fillerInstr (p : PortId) : Bool → FrameState → Bool → Instr
  | false, .frameStart, z => .fillStart p z
  | false, .streaming, false => .fillRefill p
  | false, .streaming, true => .fillEnd p
  | true, .frameEnd, z => .fillDone p z
  | cause, st, z => .spuriousCause p (eventVector cause (stateCode st) z)

theorem decodeEvent_eventVector (p : PortId) (cause : Bool) (st : FrameState) (z : Bool) :
    decodeEvent p (eventVector cause (stateCode st) z) = fillerInstr p cause st z := by
  cases cause <;> cases st <;> cases z <;> rfl

/-! ### One step -/

/-- What a filler's step can do, whatever its cause: one of the four activations, which writes what its instruction names. -/
inductive FillerEffect (s : State) (p : PortId) (t : State) : Prop
  | start (u : State) : putSyms p (resetWords (s.port p).cfg) s = .ok u → Activation p startFrame s u t →
    FillerEffect s p t
  | refill (u : State) : refillBytes p (refillCount s.par (s.port p)) s = .ok u → Activation p id s u t →
    FillerEffect s p t
  | finish (u : State) : putSyms p (endingWords (s.port p).cfg) s = .ok u → Activation p endFrame s u t →
    FillerEffect s p t
  | done : Activation p frameDone s s t → FillerEffect s p t

theorem exec_fillerInstr_effect {s t : State} {p : PortId} {cause : Bool} {st : FrameState} {z : Bool}
    (h : exec (fillerInstr p cause st z) s = .next t) : FillerEffect s p t := by
  unfold fillerInstr at h
  split at h
  · obtain ⟨-, u, hu, ha⟩ := execFillStart_activation h
    exact .start u hu ha
  · obtain ⟨-, u, hu, ha⟩ := execFillRefill_activation h
    exact .refill u hu ha
  · obtain ⟨-, u, hu, ha⟩ := execFillEnd_activation h
    exact .finish u hu ha
  · exact .done (execFillDone_activation h).2
  · cases h

theorem step_of_fetch {s : State} {i : Instr} (h : fetch s = .instr i) : step s = exec i s.advance := by
  simp [step, h]

/-- Whose turn a fetched instruction is, and what it can do. -/
theorem exec_fetched_cases {s t : State} {i : Instr} (hi : fetch s = .instr i) (he : exec i s.advance = .next t) :
    (∃ we bytes addr data rest, s.agenda = .host we bytes addr data :: rest ∧ HostEffect i s.advance t) ∨
    (∃ p rest, s.agenda = .filler p :: rest ∧ p.toNat < s.ports.length ∧ FillerEffect s.advance p t) ∨
    (∃ p rest P, s.agenda = .transmitter p :: rest ∧ p.toNat < s.ports.length ∧
      TxEffect s.par (symRead s p (s.port p).rd.toNat) (s.port p) P ∧ t = s.advance.setPort p P) := by
  rcases fetch_instr hi with ⟨we, bytes, addr, data, rest, ha, hd⟩ | ⟨p, e, rest, ha, hp, hen, rfl⟩ |
    ⟨p, rest, ha, hp, -, -, ⟨hz, rfl⟩ | ⟨hnz, rfl⟩⟩
  · exact .inl ⟨we, bytes, addr, data, rest, ha, (exec_bus_answers hd s.advance).of_next he⟩
  · obtain ⟨-, rfl⟩ := activationEntry_some hen
    rw [decodeEvent_eventVector] at he
    exact .inr (.inl ⟨p, rest, ha, hp, exec_fillerInstr_effect he⟩)
  · obtain ⟨P, hP, hx⟩ := exec_symUnderrun (s := s.advance) (symRead s p (s.port p).rd.toNat) hp hz
    rw [hx] at he
    cases he
    exact .inr (.inr ⟨p, rest, P, ha, hp, hP, rfl⟩)
  · obtain ⟨P, hP, hx⟩ := exec_decodeSym (s := s.advance) (symRead s p (s.port p).rd.toNat) hp hnz
    rw [hx] at he
    cases he
    exact .inr (.inr ⟨p, rest, P, ha, hp, hP, rfl⟩)

/-- All that a step which answers a next state can have done to the state (20_memory.md R79, R80). -/
inductive StepEffect (s t : State) : Prop
  | quiet : SameCore s t → StepEffect s t
  | memWrite (addr : Word) (b : Byte) : addr.toNat < s.par.hostMemSize →
    t = { s.advance with hostMem := cellWrite s.hostMem addr.toNat b } → StepEffect s t
  | reset : fetch s = .reset → t = resetStep s.advance → StepEffect s t
  | host (i : Instr) : fetch s = .instr i → HostEffect i s.advance t → StepEffect s t
  | filler (p : PortId) (rest : List Turn) : s.agenda = .filler p :: rest → p.toNat < s.ports.length →
    FillerEffect s.advance p t → StepEffect s t
  | transmitter (p : PortId) (rest : List Turn) (P : Port) : s.agenda = .transmitter p :: rest →
    p.toNat < s.ports.length → TxEffect s.par (symRead s p (s.port p).rd.toNat) (s.port p) P →
    t = s.advance.setPort p P → StepEffect s t

theorem step_effect {s t : State} (h : step s = .next t) : StepEffect s t := by
  rcases step_cases h with ⟨-, rfl⟩ | ⟨-, rfl⟩ | ⟨i, hi, he⟩ | ⟨a, b, -, ha, rfl⟩ | ⟨hf, rfl⟩
  · exact .quiet (.refl t)
  · exact .quiet (sameCore_advance s)
  · rcases exec_fetched_cases hi he with ⟨-, -, -, -, -, -, hhost⟩ | ⟨p, rest, ha, hp, hfill⟩ | ⟨p, rest, P, ha, hp, hP, ht⟩
    · exact .host i hi hhost
    · exact .filler p rest ha hp hfill
    · exact .transmitter p rest P ha hp hP ht
  · exact .memWrite a b ha rfl
  · exact .reset hf rfl

end Sys2Proof.Machine
end

section
/-! PROOFS. The family 10_state.md, second part: where a port's window writes go (42_encoder_engine.md R182, 20_memory.md R74),
and a refill as the window writes of one list of words (42_encoder_engine.md R196). -/

namespace Sys2Proof.Machine

/-! ### Words from their fields -/

/-- The value of two fields side by side, the second in the low bits. -/
theorem toNat_append_eq {v w : Nat} (x : BitVec v) (y : BitVec w) :
    (x ++ y).toNat = 2 ^ w * x.toNat + y.toNat := by
  rw [BitVec.toNat_append, ← Nat.shiftLeft_add_eq_or_of_lt y.isLt, Nat.shiftLeft_eq, Nat.mul_comm]

/-- A symbol word's value (30_encoding.md R95). -/
theorem symWord_toNat (lvl1 : Bool) (dur1 : Dur) (lvl0 : Bool) (dur0 : Dur) :
    (symWord lvl1 dur1 lvl0 dur0).toNat =
      2 ^ 31 * lvl1.toNat + 2 ^ 16 * dur1.toNat + 2 ^ 15 * lvl0.toNat + dur0.toNat := by
  simp only [symWord, toNat_append_eq, BitVec.toNat_ofBool]
  omega

/-! ### A port's window in symbol RAM -/

/-- The bounds of a port's window (20_memory.md R74). -/
theorem symIndex_bounds (p : PortId) {w i : Nat} (hi : i < w) :
    p.toNat * w ≤ symIndex w p i ∧ symIndex w p i < (p.toNat + 1) * w := by
  rw [Nat.add_one_mul]
  simp only [symIndex]
  omega

theorem symIndex_lt {p : PortId} {w i limit : Nat} (hp : p.toNat < limit) (hi : i < w) :
    symIndex w p i < limit * w :=
  (symIndex_bounds p hi).2.trans_le (Nat.mul_le_mul_right w hp)

/-- No word of port q's window lies in port p's. -/
theorem symIndex_outside {p q : PortId} (h : q ≠ p) {w i : Nat} (hi : i < w) :
    symIndex w q i < p.toNat * w ∨ (p.toNat + 1) * w ≤ symIndex w q i := by
  obtain ⟨hlo, hhi⟩ := symIndex_bounds q hi
  have hne : q.toNat ≠ p.toNat := fun e => h (BitVec.eq_of_toNat_eq e)
  rcases Nat.lt_or_gt_of_ne hne with hlt | hgt
  · exact .inl (hhi.trans_le (Nat.mul_le_mul_right w hlt))
  · exact .inr ((Nat.mul_le_mul_right w hgt).trans hlo)

/-- What window writes by port p do outside its window: nothing; and its cursor stays in the window. -/
structure InWindow (p : PortId) (s t : State) : Prop where
  cur_lt : (t.port p).cur.toNat < s.par.w
  outside : ∀ a, a < p.toNat * s.par.w ∨ (p.toNat + 1) * s.par.w ≤ a → cellRead t.symRam a = cellRead s.symRam a
  below : cellsBelow (s.ports.length * s.par.w) s.symRam = true →
    cellsBelow (s.ports.length * s.par.w) t.symRam = true

theorem InWindow.trans {p : PortId} {s t u : State} (hst : WindowFrame p s t) (h1 : InWindow p s t)
    (h2 : InWindow p t u) : InWindow p s u := by
  obtain ⟨hcur, hout, hbelow⟩ := h2
  rw [hst.par] at hcur hout hbelow
  rw [hst.length] at hbelow
  exact ⟨hcur, fun a ha => (hout a ha).trans (h1.outside a ha), fun h => hbelow (h1.below h)⟩

theorem putSym_inWindow {p : PortId} {w : Word} {s t : State} (hp : p.toNat < s.ports.length) (hw : s.par.w ≤ 65535)
    (hcur : (s.port p).cur.toNat < s.par.w) (h : putSym p w s = .ok t) : InWindow p s t := by
  obtain ⟨-, rfl⟩ := putSym_ok h
  have hb := symIndex_bounds p hcur
  refine ⟨?_, fun a ha => cellRead_cellWrite_ne _ _ (by omega), cellsBelow_cellWrite _ _ (symIndex_lt hp hcur)⟩
  rw [setSym_port, port_setPort_same s p _ hp, pushed_cur, nextIndex_toNat _ _ hw hcur]
  exact Nat.mod_lt _ (by omega)

theorem putSyms_inWindow {p : PortId} {ws : List Word} {s t : State} (hp : p.toNat < s.ports.length)
    (hw : s.par.w ≤ 65535) (hcur : (s.port p).cur.toNat < s.par.w) (h : putSyms p ws s = .ok t) : InWindow p s t := by
  induction ws generalizing s with
  | nil => cases h; exact ⟨hcur, fun _ _ => rfl, id⟩
  | cons w ws ih =>
    simp only [putSyms] at h
    split at h
    · next u hu =>
      have hf := putSym_frame hu
      have hin := putSym_inWindow hp hw hcur hu
      exact hin.trans hf (ih (hf.length ▸ hp) (hf.par ▸ hw) (hf.par ▸ hin.cur_lt) h)
    · cases h

/-! ### A refill -/

/-- A port whose counters have gone on by `n` bytes: four lookups, one NEXT and one REMAIN for each. -/
def refillCounters (n : Nat) (P : Port) : Port :=
  { P with
    lookups := P.lookups + BitVec.ofNat 32 (4 * n), next := P.next + BitVec.ofNat 16 n,
    remain := P.remain - BitVec.ofNat 16 n }

/-- The `n` staged bytes from index `next` on; one the last ARM did not write is free (log entry 9). -/
def stagedBytes (draws : Nat) (stage : List Byte) : Nat → Pos → List Byte
  | 0, _ => []
  | n + 1, next =>
    (stage[next.toNat]?).getD (Config.freeStageByte draws next.toNat) :: stagedBytes draws stage n (next + 1)

@[simp] theorem stagedBytes_length (draws : Nat) (stage : List Byte) (n : Nat) (next : Pos) :
    (stagedBytes draws stage n next).length = n := by
  induction n generalizing next with
  | zero => rfl
  | succ n ih => simp [stagedBytes, ih]

/-- The words of bytes in turn, eight for each (41_symbol_table.md R165). -/
def bytesWords (t : SymTable) (bs : List Byte) : List Word := bs.flatMap fun b => groupWords t (byteGroups b)

@[simp] theorem bytesWords_length (t : SymTable) (bs : List Byte) : (bytesWords t bs).length = 8 * bs.length := by
  induction bs with
  | nil => rfl
  | cons b bs ih =>
    simp only [bytesWords, List.flatMap_cons, List.length_append, List.length_cons] at ih ⊢
    rw [ih, groupWords_length]
    simp only [byteGroups, List.length_cons, List.length_nil]
    omega

/-- The words a refill of `n` bytes writes. -/
def refillWords (s : State) (p : PortId) (n : Nat) : List Word :=
  bytesWords (s.port p).table (stagedBytes s.draws (s.port p).stage n (s.port p).next)

@[simp] theorem refillWords_length (s : State) (p : PortId) (n : Nat) : (refillWords s p n).length = 8 * n := by
  simp [refillWords]

theorem refillCounters_zero (P : Port) : refillCounters 0 P = P := by simp [refillCounters]

/-- One byte, then `n` more. -/
theorem refillCounters_succ (n : Nat) (P : Port) :
    refillCounters (n + 1) P = refillCounters n (countByte (addLookups 4 P)) := by
  have hl : P.lookups + BitVec.ofNat 32 (4 * (n + 1)) = P.lookups + BitVec.ofNat 32 4 + BitVec.ofNat 32 (4 * n) := by
    rw [BitVec.add_assoc, ← BitVec.ofNat_add, show 4 * (n + 1) = 4 + 4 * n by omega]
  have hn : P.next + BitVec.ofNat 16 (n + 1) = P.next + 1 + BitVec.ofNat 16 n := by
    rw [BitVec.add_assoc, Nat.add_comm, BitVec.ofNat_add]
    rfl
  have hr : P.remain - BitVec.ofNat 16 (n + 1) = P.remain - 1 - BitVec.ofNat 16 n := by
    rw [BitVec.ofNat_add]
    bv_omega
  simp only [refillCounters, countByte, addLookups, hl, hn, hr]

/-- A refill is window writes of its bytes' words, after the counters have gone on (42_encoder_engine.md R196). -/
theorem refillBytes_eq {p : PortId} (n : Nat) {s : State} (hp : p.toNat < s.ports.length) :
    refillBytes p n s = putSyms p (refillWords s p n) (s.setPort p (refillCounters n (s.port p))) := by
  induction n generalizing s with
  | zero => rw [refillCounters_zero, setPort_port_self s p hp]; rfl
  | succ n ih =>
    have hp1 : p.toNat < (s.setPort p (addLookups 4 (s.port p))).ports.length := by simpa using hp
    have hp2 : p.toNat < (s.setPort p (countByte (addLookups 4 (s.port p)))).ports.length := by simpa using hp
    have hone := putSyms_setPort p (groupWords (s.port p).table (byteGroups (stagedByte s p)))
      (s.setPort p (addLookups 4 (s.port p))) countByte hp1 (fun _ => rfl) (fun _ => rfl) (fun _ _ => rfl)
    have hmany := putSyms_setPort p (groupWords (s.port p).table (byteGroups (stagedByte s p)))
      (s.setPort p (countByte (addLookups 4 (s.port p)))) (refillCounters n) hp2 (fun _ => rfl) (fun _ => rfl)
      (fun _ _ => rfl)
    rw [setPort_setPort, port_setPort_same s p _ hp] at hone hmany
    have hwords : refillWords s p (n + 1) = groupWords (s.port p).table (byteGroups (stagedByte s p)) ++
        bytesWords (s.port p).table (stagedBytes s.draws (s.port p).stage n ((s.port p).next + 1)) := rfl
    rw [refillBytes, encodeByte_eq p _ s hp, hwords, putSyms_append, refillCounters_succ, hmany, hone]
    cases hu : putSyms p (groupWords (s.port p).table (byteGroups (stagedByte s p)))
        (s.setPort p (addLookups 4 (s.port p))) with
    | error r => rfl
    | ok u =>
      have hf := putSyms_frame hu
      have hpu : p.toNat < u.ports.length := hf.length ▸ hp1
      have hport := hf.port hp1
      rw [port_setPort_same s p _ hp] at hport
      have hdraws : u.draws = s.draws := by rw [hf.rest]; rfl
      have hnext : refillWords (u.setPort p (countByte (u.port p))) p n =
          bytesWords (s.port p).table (stagedBytes s.draws (s.port p).stage n ((s.port p).next + 1)) := by
        simp only [refillWords, port_setPort_same u p _ hpu, setPort_draws, hdraws]
        rw [hport]
        rfl
      simp only
      rw [ih (by simpa using hpu), hnext]

/-- What a filler's step leaves alone outside its port's window (10_state.md R22, 60_exceptions.md R270). -/
theorem FillerEffect.inWindow {s t : State} {p : PortId} (hp : p.toNat < s.ports.length) (hw : s.par.w ≤ 65535)
    (hcur : (s.port p).cur.toNat < s.par.w) (h : FillerEffect s p t) :
    ∀ a, a < p.toNat * s.par.w ∨ (p.toNat + 1) * s.par.w ≤ a → cellRead t.symRam a = cellRead s.symRam a := by
  cases h with
  | start u hu ha => rw [ha.eq]; exact (putSyms_inWindow hp hw hcur hu).outside
  | refill u hu ha =>
    rw [refillBytes_eq _ hp] at hu
    have hin := putSyms_inWindow (s := s.setPort p (refillCounters (refillCount s.par (s.port p)) (s.port p)))
      (by simpa using hp) hw (by rw [port_setPort_same s p _ hp]; exact hcur) hu
    rw [ha.eq]
    exact hin.outside
  | finish u hu ha => rw [ha.eq]; exact (putSyms_inWindow hp hw hcur hu).outside
  | done ha => rw [ha.eq]; exact fun _ _ => rfl

end Sys2Proof.Machine
end

section
/-! PROOFS. The family 10_state.md, third part: one port's invariant (R49), said of the port's own data, so that each change of a
port is judged without the state around it; what the host's instructions and Consume do to it. -/

namespace Sys2Proof.Machine

/-! ### One port's invariant, of its own data -/

/-- The word at place `k` of the unconsumed words of `P`, in the symbol RAM `m`. -/
def wordAt (w : Nat) (m : SymRam) (p : PortId) (P : Port) (k : Nat) : Option Word :=
  cellRead m (symIndex w p ((P.rd.toNat + k) % w))

/-- `WordsInv` of a port's own data. -/
structure PortWords (w : Nat) (m : SymRam) (p : PortId) (P : Port) : Prop where
  streaming : P.state = .streaming → ∀ k < P.fill.toNat, (wordAt w m p P k).any emitsWhole = true
  frameEnd : P.state = .frameEnd → P.txActive = true →
    (∀ k < P.fill.toNat - 1, (wordAt w m p P k).any emitsWhole = true) ∧
    wordAt w m p P (P.fill.toNat - 1) = some (endMarker P.cfg)

/-- `PortInv` of a port's own data. -/
structure PortFacts (par : Config.Params) (n : BitVec 8) (begun : Bool) (m : SymRam) (p : PortId) (P : Port) : Prop where
  window : WindowInv par.w P
  counters : CounterInv P
  engine : EngineInv begun P
  config : ConfigInv par n begun p.toNat P
  words : PortWords par.w m p P
  latency : ∀ bound, par.serviceBound = some bound → P.lat ≤ bound

theorem portInv_iff (s : State) (p : PortId) :
    PortInv s p ↔ PortFacts s.par s.n s.begun s.symRam p (s.port p) :=
  ⟨fun h => ⟨h.window, h.counters, h.engine, h.config, ⟨h.words.streaming, h.words.frameEnd⟩, h.latency⟩,
   fun h => ⟨h.window, h.counters, h.engine, h.config, ⟨h.words.streaming, h.words.frameEnd⟩, h.latency⟩⟩

theorem Inv.facts {s : State} (h : Inv s) {p : PortId} (hp : p.toNat < s.ports.length) :
    PortFacts s.par s.n s.begun s.symRam p (s.port p) := (portInv_iff s p).1 (h.ports p hp)

theorem Inv.w_le {s : State} (h : Inv s) : s.par.w ≤ 65535 := by
  obtain ⟨⟨-, -, hw, -⟩, -⟩ := h.params
  exact hw

section
variable {par : Config.Params} {n : BitVec 8} {begun : Bool} {m : SymRam} {p : PortId} {P : Port}

/-- A port without unconsumed words is held to nothing by symbol RAM. -/
theorem portWords_of_idle {w : Nat} (h : P.state = .idle) : PortWords w m p P where
  streaming := fun hs => by rw [h] at hs; cases hs
  frameEnd := fun hs => by rw [h] at hs; cases hs

theorem portWords_of_frameStart {w : Nat} (h : P.state = .frameStart) : PortWords w m p P where
  streaming := fun hs => by rw [h] at hs; cases hs
  frameEnd := fun hs => by rw [h] at hs; cases hs

/-- Only the words of the port's own window count. -/
theorem PortFacts.of_window {m' : SymRam} (h : PortFacts par n begun m p P)
    (hm : ∀ i < par.w, cellRead m' (symIndex par.w p i) = cellRead m (symIndex par.w p i)) :
    PortFacts par n begun m' p P := by
  have hw : 0 < par.w := by have := h.window.cur_lt; omega
  have hwords : ∀ k, wordAt par.w m' p P k = wordAt par.w m p P k := fun k => hm _ (Nat.mod_lt _ hw)
  refine { h with words := ⟨fun hs k hk => ?_, fun hs ht => ?_⟩ }
  · rw [hwords]; exact h.words.streaming hs k hk
  · simp only [hwords]; exact h.words.frameEnd hs ht

/-! ### The host's changes of a port -/

/-- What the host may change of a port in any state: its shadow, PRESENT, the sticky bits, and TD_PENDING of a busy port. -/
theorem PortFacts.hostBits (h : PortFacts par n begun m p P) (sh : PortConfig)
    (present errBusy errUnderrun done tdPending : Bool) (htd : tdPending = true → P.state ≠ .idle) :
    PortFacts par n begun m p { P with
      sh := sh, present := present, errBusy := errBusy, errUnderrun := errUnderrun, done := done,
      tdPending := tdPending } where
  window := { h.window with }
  counters := { h.counters with }
  engine := { h.engine with teardown_busy := htd }
  config := { h.config with }
  words := { h.words with }
  latency := h.latency

/-- ARM: an empty window, K staged bytes and nothing encoded yet (42_encoder_engine.md R186). -/
theorem PortFacts.arm (h : PortFacts par n begun m p P) (mem : HostMem) (hb : begun = true) (hi : P.state = .idle)
    (hen : P.cfg.en = true) : PortFacts par n begun m p (armPort mem P) := by
  obtain ⟨-, -, htx, -, -⟩ := h.engine.idle hi
  have hw : 0 < par.w := by have := h.window.cur_lt; omega
  exact {
    window := ⟨hw, hw, Nat.zero_le _, (Nat.zero_mod _).symm⟩
    counters := {
      staged_lt := by simpa using P.cfg.k.isLt
      next_remain := by simp
      lookups_eq := rfl
      all_encoded := fun hs => by rcases hs with hs | hs <;> cases hs }
    engine := {
      one_enable := fun hie => Bool.false_ne_true hie.2
      idle := fun hs => by cases hs
      frameStart := fun _ => ⟨rfl, htx, rfl, rfl⟩
      streaming := fun hs => by cases hs
      frameEnd := fun hs => by cases hs
      busy_begun := fun _ => ⟨hen, hb⟩
      teardown_busy := fun _ hs => by cases hs }
    config := { h.config with }
    words := portWords_of_frameStart rfl
    latency := h.latency }

/-- Release of an Idle port leaves a configuration Validate accepts, and its pad an input (40_driver_interface.md R146). -/
theorem ConfigInv.release {idx : Nat} (h : ConfigInv par n begun idx P) : ConfigInv par n begun idx (release P) where
  valid := by
    obtain ⟨-, hrest⟩ := (portBad_eq_false ..).1 h.valid
    exact (portBad_eq_false ..).2 ⟨rfl, hrest⟩
  built := fun hb => ⟨(h.built hb).1, (h.built hb).2.1, rfl⟩

/-- What counts of an Idle port: its configuration may change. -/
theorem EngineInv.idle_of {begun' : Bool} {Q : Port} (h : EngineInv begun P) (hi : P.state = .idle) (hstate : Q.state = P.state)
    (hlwm : Q.lwmIe = P.lwmIe) (htxdone : Q.txdoneIe = P.txdoneIe) (htx : Q.txActive = P.txActive)
    (hflag : Q.txdoneFlag = P.txdoneFlag) (hfill : Q.fill = P.fill) (htd : Q.tdPending = true → P.tdPending = true) :
    EngineInv begun' Q where
  one_enable := by rw [hlwm, htxdone]; exact h.one_enable
  idle := fun _ => by rw [hlwm, htxdone, htx, hflag, hfill]; exact h.idle hi
  frameStart := fun hs => by rw [hstate, hi] at hs; cases hs
  streaming := fun hs => by rw [hstate, hi] at hs; cases hs
  frameEnd := fun hs => by rw [hstate, hi] at hs; cases hs
  busy_begun := fun hs => absurd (hstate.trans hi) hs
  teardown_busy := fun ht => absurd hi (h.teardown_busy (htd ht))

theorem PortFacts.release (h : PortFacts par n begun m p P) (hi : P.state = .idle) :
    PortFacts par n begun m p (release P) where
  window := { h.window with }
  counters := { h.counters with }
  engine := h.engine.idle_of hi rfl rfl rfl rfl rfl rfl id
  config := h.config.release
  words := portWords_of_idle hi
  latency := h.latency

/-- Everything one host instruction can do to one port. -/
theorem HostPortEffect.keeps {s : State} {i : Instr} (h : HostPortEffect s p i P)
    (hs : PortFacts s.par s.n s.begun s.symRam p (s.port p)) : PortFacts s.par s.n s.begun s.symRam p P := by
  cases h with
  | shadow _ data r => exact hs.hostBits _ _ _ _ _ _ hs.engine.teardown_busy
  | busy _ _ => exact hs.hostBits _ _ _ _ _ _ hs.engine.teardown_busy
  | arm hb hi hen _ => exact hs.arm s.hostMem hb hi hen
  | clear => exact hs.hostBits _ _ _ _ _ _ hs.engine.teardown_busy
  | defer _ hbusy => exact hs.hostBits _ _ _ _ _ _ fun _ => hbusy
  | release _ hi => exact hs.release hi

/-! ### A validated configuration in force -/

theorem countBad_clampCount {limit : Nat} (h1 : 1 ≤ limit) (h16 : limit ≤ 16) (c : BitVec 8) :
    countBad limit (clampCount limit c) = false := by
  unfold clampCount
  split
  · exact countBad_ofNat h1 h16
  · next h => simpa using h

theorem orDefault_ne_zero {d dflt : Dur} (h : dflt ≠ 0) : orDefault d dflt ≠ 0 := by
  unfold orDefault
  split
  · exact h
  · assumption

theorem cap_le {w bound : Nat} (v : BitVec w) : (cap bound v).toNat ≤ bound := by
  unfold cap
  split
  · rw [BitVec.toNat_ofNat]
    exact Nat.mod_le _ _
  · omega

/-- Validate accepts what it has corrected (40_driver_interface.md R134). -/
theorem portBad_fixPort (hpar : par.defaultsOk) (idx : Nat) (c : PortConfig) :
    portBad par n idx (fixPort par n idx c) = false := by
  obtain ⟨h0h, h0l, h1h, h1l, hreset, hlatch, -⟩ := hpar
  have hen : enBad n idx (fixPort par n idx c) = false := by
    simp only [fixPort, enBad]
    cases c.en <;> simp
  exact (portBad_eq_false ..).2 ⟨hen, orDefault_ne_zero h0h, orDefault_ne_zero h0l, orDefault_ne_zero h1h,
    orDefault_ne_zero h1l, orDefault_ne_zero hreset, orDefault_ne_zero hlatch, cap_le _, cap_le _, cap_le _⟩

/-- A configuration Validate accepts, installed on an Idle port (40_driver_interface.md R127, R129). -/
theorem PortFacts.install (h : PortFacts par n begun m p P) (hi : P.state = .idle) {n' : BitVec 8} {c : PortConfig}
    (hc : portBad par n' p.toNat c = false) {valid : Bool} (hvalid : valid = true) :
    PortFacts par n' true m p { install c P with tableValid := valid } where
  window := { h.window with }
  counters := { h.counters with }
  engine := h.engine.idle_of hi rfl rfl rfl rfl rfl rfl id
  config := ⟨hc, fun _ => ⟨hvalid, rfl, rfl⟩⟩
  words := portWords_of_idle hi
  latency := h.latency

/-! ### The transmitter's changes of a port -/

/-- A running transmitter's port is in Streaming or in FrameEnd. -/
theorem EngineInv.tx_state (h : EngineInv begun P) (htx : P.txActive = true) :
    P.state = .streaming ∨ P.state = .frameEnd := by
  cases hs : P.state with
  | idle => obtain ⟨-, -, hoff, -⟩ := h.idle hs; rw [hoff] at htx; cases htx
  | frameStart => obtain ⟨-, hoff, -⟩ := h.frameStart hs; rw [hoff] at htx; cases htx
  | streaming => exact .inl rfl
  | frameEnd => exact .inr rfl

/-- The word a running transmitter finds at RD is emitted whole, or is the end marker, which is the last word of FrameEnd
(30_encoding.md R96, R97). -/
theorem PortFacts.front_word (h : PortFacts par n begun m p P) (htx : P.txActive = true) (hf : P.fill ≠ 0) :
    ∃ w, cellRead m (symIndex par.w p P.rd.toNat) = some w ∧
      ((emitsWhole w = true ∧ (P.state = .frameEnd → 2 ≤ P.fill.toNat)) ∨
       (P.state = .frameEnd ∧ P.fill = 1 ∧ w = endMarker P.cfg)) := by
  have hfill : P.fill.toNat ≠ 0 := fun e => hf (BitVec.eq_of_toNat_eq e)
  have hfront : wordAt par.w m p P 0 = cellRead m (symIndex par.w p P.rd.toNat) := by
    rw [wordAt, Nat.add_zero, Nat.mod_eq_of_lt h.window.rd_lt]
  rw [← hfront]
  rcases h.engine.tx_state htx with hs | hs
  · obtain ⟨w, hw, hwhole⟩ := (Option.any_eq_true _ _).1 (h.words.streaming hs 0 (by omega))
    exact ⟨w, hw, .inl ⟨hwhole, fun he => by rw [hs] at he; cases he⟩⟩
  · obtain ⟨hbody, hlast⟩ := h.words.frameEnd hs htx
    by_cases hone : P.fill.toNat = 1
    · rw [hone] at hlast
      exact ⟨_, hlast, .inr ⟨hs, BitVec.eq_of_toNat_eq hone, rfl⟩⟩
    · obtain ⟨w, hw, hwhole⟩ := (Option.any_eq_true _ _).1 (hbody 0 (by omega))
      exact ⟨w, hw, .inl ⟨hwhole, fun _ => by omega⟩⟩

theorem toNat_sub_one {v : Pos} (h : v ≠ 0) : (v - 1).toNat = v.toNat - 1 := by
  have : v.toNat ≠ 0 := fun e => h (BitVec.eq_of_toNat_eq e)
  bv_omega

/-- Consume moves RD on, and every place one down. -/
theorem WindowInv.consume (h : WindowInv par.w P) (hw : par.w ≤ 65535) (hf : P.fill ≠ 0) :
    WindowInv par.w (consume par P) := by
  obtain ⟨hcur, hrd, hfill, heq⟩ := h
  have hpos : P.fill.toNat ≠ 0 := fun e => hf (BitVec.eq_of_toNat_eq e)
  refine ⟨hcur, ?_, ?_, ?_⟩
  · rw [consume_rd, nextIndex_toNat _ _ hw hrd]
    exact Nat.mod_lt _ (by omega)
  · rw [consume_fill, toNat_sub_one hf]
    omega
  · rw [consume_cur, consume_rd, consume_fill, nextIndex_toNat _ _ hw hrd, toNat_sub_one hf, Nat.mod_add_mod, heq]
    congr 1
    omega

theorem wordAt_consume {w : Nat} (hw : w ≤ 65535) (hrd : P.rd.toNat < w) {Q : Port} (hQ : Q.rd = nextIndex w P.rd)
    (k : Nat) : wordAt w m p Q k = wordAt w m p P (k + 1) := by
  rw [wordAt, wordAt, hQ, nextIndex_toNat _ _ hw hrd, Nat.mod_add_mod, show P.rd.toNat + 1 + k = P.rd.toNat + (k + 1) by omega]

theorem symDur0_symWord (lvl1 : Bool) (dur1 : Dur) (lvl0 : Bool) (dur0 : Dur) :
    symDur0 (symWord lvl1 dur1 lvl0 dur0) = dur0 := by
  refine BitVec.eq_of_toNat_eq ?_
  rw [symDur0, BitVec.extractLsb'_toNat, symWord_toNat, Nat.shiftRight_zero]
  omega

theorem symDur1_symWord (lvl1 : Bool) (dur1 : Dur) (lvl0 : Bool) (dur0 : Dur) :
    symDur1 (symWord lvl1 dur1 lvl0 dur0) = dur1 := by
  have h0 := dur0.isLt
  have hl := lvl0.toNat_lt
  refine BitVec.eq_of_toNat_eq ?_
  rw [symDur1, BitVec.extractLsb'_toNat, symWord_toNat, Nat.shiftRight_eq_div_pow]
  omega

theorem emitsWhole_iff (w : Word) : emitsWhole w = true ↔ symDur0 w ≠ 0 ∧ symDur1 w ≠ 0 := by
  simp [emitsWhole]

/-- The end marker's first duration is 0 (30_encoding.md R96). -/
theorem symDur0_endMarker (c : PortConfig) : symDur0 (endMarker c) = 0 := symDur0_symWord ..

end

end Sys2Proof.Machine
end

section
/-! PROOFS. The family 10_state.md, fourth part: the transmitter's steps and the host's instructions keep the invariant. -/

namespace Sys2Proof.Machine

section
variable {par : Config.Params} {n : BitVec 8} {begun : Bool} {m : SymRam} {p : PortId} {P : Port}

/-- A word emitted whole leaves the others in their places (43_transmitter.md R233). -/
theorem PortFacts.symEmit (h : PortFacts par n begun m p P) (hw : par.w ≤ 65535) (hf : P.fill ≠ 0)
    (hmore : P.state = .frameEnd → 2 ≤ P.fill.toNat)
    (hlat : ∀ bound, par.serviceBound = some bound → latAfterTx par P ≤ bound) (es : List TraceEntry) :
    PortFacts par n begun m p (emit es (consume par P)) := by
  have hfill : (P.fill - 1).toNat = P.fill.toNat - 1 := toNat_sub_one hf
  have hword := wordAt_consume (m := m) (p := p) hw h.window.rd_lt (Q := emit es (consume par P)) rfl
  have hne : P.state = .frameEnd → P.fill - 1 ≠ 0 := fun hs he => by
    have hfew := hmore hs
    rw [he] at hfill
    simp at hfill
    omega
  exact {
    window := { h.window.consume hw hf with }
    counters := { h.counters with }
    engine := { h.engine with
      idle := fun hs => absurd (h.engine.idle hs).2.2.2.2 hf
      frameStart := fun hs => absurd (h.engine.frameStart hs).2.2.2 hf
      frameEnd := fun hs =>
        have ⟨hie, hlwm, hon, hoff⟩ := h.engine.frameEnd hs
        ⟨hie, hlwm, fun htx => ⟨(hon htx).1, hne hs⟩, fun htx => absurd (hoff htx).2 hf⟩ }
    config := { h.config with }
    words := {
      streaming := fun hs k hk => by
        rw [hword]
        have hlt : k < (P.fill - 1).toNat := hk
        exact h.words.streaming hs (k + 1) (by omega)
      frameEnd := fun hs htx => by
        obtain ⟨hbody, hlast⟩ := h.words.frameEnd hs htx
        have hfew := hmore hs
        simp only [hword, emit_fill, consume_fill, hfill, emit_cfg, consume_cfg]
        refine ⟨fun k hk => hbody (k + 1) (by omega), ?_⟩
        rw [show P.fill.toNat - 1 - 1 + 1 = P.fill.toNat - 1 by omega]
        exact hlast }
    latency := hlat }

/-- The end marker stops the transmitter with an empty window (43_transmitter.md R232). -/
theorem PortFacts.symEnd (h : PortFacts par n begun m p P) (hw : par.w ≤ 65535) (hs : P.state = .frameEnd)
    (hf : P.fill = 1) (hlat : ∀ bound, par.serviceBound = some bound → latAfterTx par P ≤ bound) :
    PortFacts par n begun m p (stopTx (consume par P)) := by
  obtain ⟨hie, hlwm, -, -⟩ := h.engine.frameEnd hs
  exact {
    window := { h.window.consume hw (by rw [hf]; decide) with }
    counters := { h.counters with }
    engine := {
      one_enable := h.engine.one_enable
      idle := fun hi => by rw [show P.state = .idle from hi] at hs; cases hs
      frameStart := fun hi => by rw [show P.state = .frameStart from hi] at hs; cases hs
      streaming := fun hi => by rw [show P.state = .streaming from hi] at hs; cases hs
      frameEnd := fun _ => ⟨hie, hlwm, fun htx => absurd htx Bool.false_ne_true, fun _ => ⟨rfl, by simp [hf]⟩⟩
      busy_begun := h.engine.busy_begun
      teardown_busy := h.engine.teardown_busy }
    config := { h.config with }
    words := {
      streaming := fun hi => by rw [show P.state = .streaming from hi] at hs; cases hs
      frameEnd := fun _ htx => by cases htx }
    latency := hlat }

/-- A starved transmitter is in Streaming: nothing but its own marks change (43_transmitter.md R236). -/
theorem PortFacts.underrun (h : PortFacts par n begun m p P)
    (hlat : ∀ bound, par.serviceBound = some bound → latAfterTx par P ≤ bound) :
    PortFacts par n begun m p (underrun par P) where
  window := { h.window with }
  counters := { h.counters with }
  engine := { h.engine with }
  config := { h.config with }
  words := { h.words with }
  latency := hlat

/-- The step SERVICE_BOUND admits takes LAT no further than it (43_transmitter.md R238). -/
theorem txAdmitted_le (h : txAdmitted par P = true) (bound : Nat) (hb : par.serviceBound = some bound) :
    latAfterTx par P ≤ bound := by
  simpa [txAdmitted, hb] using h

/-- Everything one transmitter step can do to its port, `w` being the word at RD. -/
theorem TxEffect.keeps {w : Word} {Q : Port} (h : TxEffect par w P Q) (hP : PortFacts par n begun m p P)
    (hw : par.w ≤ 65535) (htx : P.txActive = true) (hadm : txAdmitted par P = true)
    (hread : ∀ v, cellRead m (symIndex par.w p P.rd.toNat) = some v → w = v) : PortFacts par n begun m p Q := by
  have hlat := txAdmitted_le hadm
  cases h with
  | underrun _ => exact hP.underrun hlat
  | symEnd hf h0 =>
    obtain ⟨v, hv, ⟨hwhole, -⟩ | ⟨hs, hone, -⟩⟩ := hP.front_word htx hf
    · exact absurd (hread v hv ▸ h0) ((emitsWhole_iff v).1 hwhole).1
    · exact hP.symEnd hw hs hone hlat
  | symHalfEnd hf h0 h1 =>
    obtain ⟨v, hv, ⟨hwhole, -⟩ | ⟨-, -, hmark⟩⟩ := hP.front_word htx hf
    · exact absurd (hread v hv ▸ h1) ((emitsWhole_iff v).1 hwhole).2
    · exact absurd (symDur0_endMarker P.cfg) (hmark ▸ hread v hv ▸ h0)
  | symEmit hf h0 _ =>
    obtain ⟨v, hv, ⟨-, hmore⟩ | ⟨-, -, hmark⟩⟩ := hP.front_word htx hf
    · exact hP.symEmit hw hf hmore hlat _
    · exact absurd (symDur0_endMarker P.cfg) (hmark ▸ hread v hv ▸ h0)

end

/-! ### The machine around one port -/

/-- `t` is `s` but for port p and its window in symbol RAM. -/
structure PortFrame (p : PortId) (s t : State) : Prop where
  rest : t = { s with ports := t.ports, symRam := t.symRam }
  length : t.ports.length = s.ports.length
  other : ∀ q, q ≠ p → t.port q = s.port q
  outside : ∀ a, a < p.toNat * s.par.w ∨ (p.toNat + 1) * s.par.w ≤ a → cellRead t.symRam a = cellRead s.symRam a
  wf : cellsWf s.symRam = true → cellsWf t.symRam = true
  below : cellsBelow (s.ports.length * s.par.w) s.symRam = true →
    cellsBelow (s.ports.length * s.par.w) t.symRam = true

theorem portFrame_setPort (s : State) (p : PortId) (P : Port) : PortFrame p s (s.setPort p P) :=
  ⟨rfl, setPort_ports_length s p P, fun _ hq => port_setPort_ne s P hq, fun _ _ => rfl, id, id⟩

/-- A change of port p after it, whatever it is. -/
theorem PortFrame.setPort {p : PortId} {s t : State} (h : PortFrame p s t) (P : Port) : PortFrame p s (t.setPort p P) where
  rest := by
    have hrest := h.rest
    rw [hrest]
    rfl
  length := (setPort_ports_length t p P).trans h.length
  other := fun q hq => (port_setPort_ne t P hq).trans (h.other q hq)
  outside := h.outside
  wf := h.wf
  below := h.below

/-- The invariant after a change of one port and its window rests on that port alone. -/
theorem Inv.of_portFrame {p : PortId} {s t : State} (hs : Inv s) (h : PortFrame p s t)
    (hP : PortFacts s.par s.n s.begun t.symRam p (t.port p)) : Inv t := by
  have hpar : t.par = s.par := by rw [h.rest]
  have hn : t.n = s.n := by rw [h.rest]
  have hbegun : t.begun = s.begun := by rw [h.rest]
  have hmem : t.hostMem = s.hostMem := by rw [h.rest]
  obtain ⟨hwf, hbelow, hmwf, hmbelow⟩ := hs.memory
  refine ⟨hpar ▸ hs.params, h.length ▸ hs.portLimit, by rw [h.length, hn]; exact hs.count, ?_, fun q hq => ?_⟩
  · rw [State.memoryWf, hpar, h.length, hmem]
    exact ⟨h.wf hwf, h.below hbelow, hmwf, hmbelow⟩
  · rw [portInv_iff, hpar, hn, hbegun]
    by_cases hqp : q = p
    · subst hqp; exact hP
    · rw [h.other q hqp]
      exact (hs.facts (h.length ▸ hq)).of_window fun i hi => h.outside _ (symIndex_outside hqp hi)

/-- A change of one port that symbol RAM has no part in. -/
theorem inv_setPort {p : PortId} {s : State} (hs : Inv s) (hp : p.toNat < s.ports.length) {P : Port}
    (hP : PortFacts s.par s.n s.begun s.symRam p P) : Inv (s.setPort p P) :=
  hs.of_portFrame (portFrame_setPort s p P) (by rw [port_setPort_same s p P hp]; exact hP)

/-- Bookkeeping alone keeps the invariant. -/
theorem Inv.of_sameCore {s t : State} (hs : Inv s) (h : SameCore s t) : Inv t := by
  refine ⟨h.par ▸ hs.params, h.ports ▸ hs.portLimit, by rw [h.ports, h.n]; exact hs.count, ?_, fun q hq => ?_⟩
  · rw [State.memoryWf, h.par, h.ports, h.symRam, h.hostMem]; exact hs.memory
  · rw [portInv_iff, h.par, h.n, h.begun, h.symRam, h.port q]
    exact hs.facts (h.ports ▸ hq)

/-! ### BEGIN and APPLY -/

theorem Inv.idle_of_not_begun {s : State} (hs : Inv s) (hb : s.begun = false) {p : PortId}
    (hp : p.toNat < s.ports.length) : (s.port p).state = .idle := by
  by_contra hbusy
  obtain ⟨-, htrue⟩ := (hs.facts hp).engine.busy_begun hbusy
  rw [hb] at htrue
  cases htrue

theorem idle_of_not_someBusy {s : State} (h : someBusy s = false) {p : PortId} (hp : p.toNat < s.ports.length) :
    (s.port p).state = .idle := by
  simpa using List.any_eq_false.1 h _ (port_mem s p hp)

/-- What a validated configuration holds for a port is one Validate accepts (40_driver_interface.md R134). -/
theorem portBad_validate {par : Config.Params} (hpar : par.defaultsOk) (cfg : FullConfig) {i : Nat} {c : PortConfig}
    (h : (validate par cfg).1.ports[i]? = some c) : portBad par (validate par cfg).1.n i c = false := by
  simp only [validate, fixPorts_getElem?, Nat.zero_add, Option.map_eq_some_iff] at h
  obtain ⟨d, -, rfl⟩ := h
  exact portBad_fixPort hpar i d

/-- P[p] after the first BEGIN (40_driver_interface.md R127). -/
theorem beginSetup_port (s : State) {p : PortId} (hp : p.toNat < s.ports.length) :
    ∃ c, (validate s.par (shadowConfig s)).1.ports[p.toNat]? = some c ∧
      (beginSetup s).port p = { install c (s.port p) with tableValid := true } := by
  obtain ⟨c, hc, hport⟩ := putInForce_port s (validate s.par (shadowConfig s)).1 (validate s.par (shadowConfig s)).2 p
    (by simp [shadowConfig]) hp
  refine ⟨c, hc, ?_⟩
  have hlength : p.toNat <
      (putInForce s (validate s.par (shadowConfig s)).1 (validate s.par (shadowConfig s)).2).ports.length := by
    simpa using hp
  rw [← hport]
  simp only [beginSetup, State.port, List.getElem?_map, List.getElem?_eq_getElem hlength, Option.map_some,
    Option.getD_some]

/-- P[p] after an APPLY that is performed (40_driver_interface.md R129). -/
theorem applyConfig_port (s : State) {p : PortId} (hp : p.toNat < s.ports.length) :
    ∃ c, (validate s.par (merge s)).1.ports[p.toNat]? = some c ∧ (applyConfig s).port p = install c (s.port p) :=
  putInForce_port s _ _ p (by simp [merge]) hp

/-- A machine of Idle ports keeps the invariant when a validated configuration is put in force and the tables are valid. -/
theorem Inv.of_installed {s t : State} (hs : Inv s) (cfg : FullConfig) (hlen : cfg.ports.length = s.ports.length)
    (hidle : ∀ p : PortId, p.toNat < s.ports.length → (s.port p).state = .idle)
    (hpar : t.par = s.par) (hn : t.n = (validate s.par cfg).1.n) (hbegun : t.begun = true)
    (hlength : t.ports.length = s.ports.length) (hram : t.symRam = s.symRam) (hmem : t.hostMem = s.hostMem)
    (hport : ∀ p : PortId, p.toNat < s.ports.length → ∃ c, (validate s.par cfg).1.ports[p.toNat]? = some c ∧
      t.port p = { install c (s.port p) with tableValid := true }) : Inv t := by
  obtain ⟨h1, h16⟩ := hs.portLimit
  refine ⟨hpar ▸ hs.params, hlength ▸ hs.portLimit, ?_, ?_, fun p hp => ?_⟩
  · rw [hn, hlength, ← hlen]
    exact countBad_clampCount (by omega) (by omega) cfg.n
  · rw [State.memoryWf, hpar, hlength, hram, hmem]; exact hs.memory
  · rw [hlength] at hp
    obtain ⟨c, hc, hp'⟩ := hport p hp
    rw [portInv_iff, hpar, hn, hbegun, hram, hp']
    exact (hs.facts hp).install (hidle p hp) (portBad_validate hs.params.2 cfg hc) rfl

theorem inv_beginSetup {s : State} (hs : Inv s) (hb : s.begun = false) : Inv (beginSetup s) :=
  hs.of_installed (shadowConfig s) (by simp [shadowConfig]) (fun _ hp => hs.idle_of_not_begun hb hp) rfl rfl rfl
    (beginSetup_ports_length s) rfl rfl fun _ hp => beginSetup_port s hp

theorem inv_applyConfig {s : State} (hs : Inv s) (hb : s.begun = true) (hidle : someBusy s = false) :
    Inv (applyConfig s) := by
  refine hs.of_installed (merge s) (by simp [merge]) (fun _ hp => idle_of_not_someBusy hidle hp) rfl rfl hb
    (applyConfig_ports_length s) rfl rfl fun p hp => ?_
  obtain ⟨c, hc, hport⟩ := applyConfig_port s hp
  obtain ⟨hvalid, -⟩ := (hs.facts hp).config.built hb
  refine ⟨c, hc, hport.trans ?_⟩
  rw [← hvalid]
  rfl

/-- Every host instruction keeps the invariant. -/
theorem HostEffect.keepsInv {i : Instr} {s t : State} (h : HostEffect i s t) (hs : Inv s) : Inv t := by
  cases h with
  | core hc => exact hs.of_sameCore hc
  | port p P hp hP hc => exact (inv_setPort hs hp (hP.keeps (hs.facts hp))).of_sameCore hc
  | begin _ hb hc => exact (inv_beginSetup hs hb).of_sameCore hc
  | apply _ hb hi hc => exact (inv_applyConfig hs hb hi).of_sameCore hc

end Sys2Proof.Machine
end

section
/-! PROOFS. The family 10_state.md, fifth part: the filler's activations keep the invariant (42_encoder_engine.md R192 to
R207), and so does every step. What the invariant then says of the steps to come settles O42, O47, O48, O58, O59. -/

namespace Sys2Proof.Machine

/-! ### Window writes with room -/

/-- `u` is `s` after port p, being `P`, has written the words `ws` into its window. -/
structure Filled (p : PortId) (ws : List Word) (s : State) (P : Port) (u : State) : Prop where
  frame : PortFrame p s u
  port : u.port p = { P with cur := (u.port p).cur, fill := (u.port p).fill }
  cur : (u.port p).cur.toNat = (P.cur.toNat + ws.length) % s.par.w
  fill : (u.port p).fill.toNat = P.fill.toNat + ws.length
  old : ∀ k < P.fill.toNat, wordAt s.par.w u.symRam p P k = wordAt s.par.w s.symRam p P k
  new : ∀ k < ws.length, wordAt s.par.w u.symRam p P (P.fill.toNat + k) = ws[k]?

theorem putSyms_filled {s : State} {p : PortId} (ws : List Word) {P : Port} (hp : p.toNat < s.ports.length)
    (hw : s.par.w ≤ 65535) (hP : WindowInv s.par.w P) (hroom : P.fill.toNat + ws.length ≤ s.par.w) :
    ∃ u, putSyms p ws (s.setPort p P) = .ok u ∧ Filled p ws s P u := by
  have hp' : p.toNat < (s.setPort p P).ports.length := by simpa using hp
  have hsame : (s.setPort p P).port p = P := port_setPort_same s p P hp
  obtain ⟨u, hu, hcur, hfill, hnew, hold⟩ := putSyms_room (s := s.setPort p P) ws hp' hw
    (by rw [hsame]; exact hP.cur_lt) (by rw [hsame]; exact hroom)
  have hf := putSyms_frame hu
  have hin := putSyms_inWindow hp' hw (by rw [hsame]; exact hP.cur_lt) hu
  have hport := hf.port hp'
  rw [hsame] at hcur hfill hnew hold hport
  rw [setPort_par] at hcur hnew hold
  have hplace : ∀ k, (P.rd.toNat + (P.fill.toNat + k)) % s.par.w = (P.cur.toNat + k) % s.par.w := by
    intro k
    rw [hP.cur_eq, Nat.mod_add_mod, Nat.add_assoc]
  refine ⟨u, hu, ?_, hport, hcur, hfill, fun k hk => ?_, fun k hk => ?_⟩
  · have hrest := hf.rest
    exact ⟨by rw [hrest]; rfl, by simpa using hf.length, fun q hq => (hf.other q hq).trans (port_setPort_ne s P hq),
      hin.outside, hf.wf, by simpa using hin.below⟩
  · refine hold _ fun j hj he => ?_
    rw [← hplace] at he
    exact window_place_ne (w := s.par.w) (c := P.rd.toNat) (i := k) (j := P.fill.toNat + j) (by omega) (by omega)
      (by simpa [symIndex] using he)
  · rw [wordAt, hplace]
    exact hnew k hk

/-- The same of the port as it stands. -/
theorem putSyms_filled_self {s : State} {p : PortId} (ws : List Word) (hp : p.toNat < s.ports.length)
    (hw : s.par.w ≤ 65535) (hP : WindowInv s.par.w (s.port p))
    (hroom : (s.port p).fill.toNat + ws.length ≤ s.par.w) :
    ∃ u, putSyms p ws s = .ok u ∧ Filled p ws s (s.port p) u := by
  have h := putSyms_filled ws hp hw hP hroom
  rwa [setPort_port_self s p hp] at h

section
variable {p : PortId} {ws : List Word} {s u : State} {P : Port}

theorem Filled.window (h : Filled p ws s P u) (hP : WindowInv s.par.w P)
    (hroom : P.fill.toNat + ws.length ≤ s.par.w) :
    WindowInv s.par.w { P with cur := (u.port p).cur, fill := (u.port p).fill } where
  cur_lt := by
    have hcur := hP.cur_lt
    show (u.port p).cur.toNat < s.par.w
    rw [h.cur]
    exact Nat.mod_lt _ (by omega)
  rd_lt := hP.rd_lt
  fill_le := by
    show (u.port p).fill.toNat ≤ s.par.w
    rw [h.fill]
    exact hroom
  cur_eq := by
    show (u.port p).cur.toNat = (P.rd.toNat + (u.port p).fill.toNat) % s.par.w
    rw [h.cur, h.fill, hP.cur_eq, Nat.mod_add_mod, Nat.add_assoc]

/-- Unconsumed words that are all emitted whole, and new words that are, together. -/
theorem Filled.emits {us vs : List Word} (h : Filled p (us ++ vs) s P u)
    (hold : ∀ k < P.fill.toNat, (wordAt s.par.w s.symRam p P k).any emitsWhole = true)
    (hnew : ∀ w ∈ us, emitsWhole w = true) :
    ∀ k < P.fill.toNat + us.length, (wordAt s.par.w u.symRam p P k).any emitsWhole = true := by
  intro k hk
  by_cases hlt : k < P.fill.toNat
  · rw [h.old k hlt]; exact hold k hlt
  · obtain ⟨j, rfl⟩ := Nat.exists_eq_add_of_le (Nat.le_of_not_lt hlt)
    have hj : j < us.length := by omega
    rw [h.new j (by rw [List.length_append]; omega), List.getElem?_append_left hj, List.getElem?_eq_getElem hj]
    exact hnew _ (List.getElem_mem hj)

end

/-! ### The words each activation writes -/

theorem emitsWhole_symWord {lvl1 lvl0 : Bool} {dur1 dur0 : Dur} (h1 : dur1 ≠ 0) (h0 : dur0 ≠ 0) :
    emitsWhole (symWord lvl1 dur1 lvl0 dur0) = true :=
  (emitsWhole_iff _).2 ⟨by rw [symDur0_symWord]; exact h0, by rw [symDur1_symWord]; exact h1⟩

theorem emitsWhole_replicate_quietWord (c : PortConfig) {d : Dur} (hd : d ≠ 0) (k : Nat) :
    ∀ w ∈ List.replicate k (quietWord c d), emitsWhole w = true := fun w hw => by
  rw [List.eq_of_mem_replicate hw]
  exact emitsWhole_symWord hd hd

/-- An entry of the table is built from its group (41_symbol_table.md R161). -/
theorem tableEntry_buildTable (c : PortConfig) (v : BitVec 2) : tableEntry (buildTable c) v = buildEntry c v := by
  have hv : v = 0 ∨ v = 1 ∨ v = 2 ∨ v = 3 := by revert v; decide
  rcases hv with rfl | rfl | rfl | rfl <;> rfl

/-- The bit symbols of a configuration Validate accepts are emitted whole (40_driver_interface.md R133). -/
theorem emitsWhole_bitSymbol {par : Config.Params} {n : BitVec 8} {idx : Nat} {c : PortConfig}
    (h : portBad par n idx c = false) (b : Bool) : emitsWhole (bitSymbol c b) = true := by
  obtain ⟨-, h0h, h0l, h1h, h1l, -⟩ := (portBad_eq_false ..).1 h
  cases b with
  | false => exact emitsWhole_symWord h0l h0h
  | true => exact emitsWhole_symWord h1l h1h

theorem emitsWhole_groupWords {par : Config.Params} {n : BitVec 8} {idx : Nat} {c : PortConfig}
    (h : portBad par n idx c = false) (vs : List (BitVec 2)) :
    ∀ w ∈ groupWords (buildTable c) vs, emitsWhole w = true := by
  induction vs with
  | nil => simp [groupWords]
  | cons v vs ih =>
    simp only [groupWords, tableEntry_buildTable, List.forall_mem_cons]
    exact ⟨emitsWhole_bitSymbol h _, emitsWhole_bitSymbol h _, ih⟩

theorem emitsWhole_bytesWords {par : Config.Params} {n : BitVec 8} {idx : Nat} {c : PortConfig}
    (h : portBad par n idx c = false) (bs : List Byte) : ∀ w ∈ bytesWords (buildTable c) bs, emitsWhole w = true := by
  simp only [bytesWords, List.mem_flatMap]
  rintro w ⟨b, -, hw⟩
  exact emitsWhole_groupWords h _ w hw

/-! ### The activations under the invariant -/

theorem lwmPending_iff (par : Config.Params) (P : Port) :
    lwmPending par P = true ↔ P.lwmIe = true ∧ P.fill.toNat ≤ par.lwm := by simp [lwmPending]

theorem txdonePending_iff (P : Port) : txdonePending P = true ↔ P.txdoneIe = true ∧ P.txdoneFlag = true := by
  simp [txdonePending]

/-- An activation keeps the invariant if it leaves its own port's facts. -/
theorem Inv.of_activation {s u : State} {p : PortId} {ws : List Word} {P : Port} {f : Port → Port}
    {e : Except Fault State} (hs : Inv s) (hp : p.toNat < s.ports.length) (hu : e = .ok u) (hF : Filled p ws s P u)
    (hport : PortFacts s.par s.n s.begun u.symRam p
      (activationEnd (f { P with cur := (u.port p).cur, fill := (u.port p).fill }))) :
    Answers Inv (onAgent s p (answer (closeActivation p f e))) := by
  rw [onAgent_eq s p _ hp, hu]
  refine hs.of_portFrame (hF.frame.setPort _) ?_
  rw [port_setPort_same u p _ (hF.frame.length ▸ hp), hF.port]
  exact hport

section
variable {par : Config.Params} {n : BitVec 8} {begun : Bool} {m m' : SymRam} {p : PortId} {P : Port}

/-- FILL_START's port, its window holding words that are emitted whole. -/
theorem PortFacts.startFrame (h : PortFacts par n begun m p P) (hstate : P.state = .frameStart) {cur fill : Pos}
    (hwin : WindowInv par.w { P with cur := cur, fill := fill })
    (hwords : ∀ k < fill.toNat, (wordAt par.w m' p P k).any emitsWhole = true) :
    PortFacts par n begun m' p (activationEnd (startFrame { P with cur := cur, fill := fill })) := by
  obtain ⟨hlwm, -, hflag, -⟩ := h.engine.frameStart hstate
  exact {
    window := { hwin with }
    counters := { h.counters with all_encoded := fun hi => by rcases hi with hi | hi <;> cases hi }
    engine := {
      one_enable := h.engine.one_enable
      idle := fun hi => by cases hi
      frameStart := fun hi => by cases hi
      streaming := fun _ => ⟨hlwm, rfl, hflag⟩
      frameEnd := fun hi => by cases hi
      busy_begun := fun _ => h.engine.busy_begun (by rw [hstate]; decide)
      teardown_busy := fun _ hi => by cases hi }
    config := { h.config with }
    words := ⟨fun _ => hwords, fun hi => by cases hi⟩
    latency := fun _ _ => Nat.zero_le _ }

/-- The counters go on together while bytes remain (42_encoder_engine.md R214). -/
theorem CounterInv.refill {k : Nat} (h : CounterInv P) (hstate : P.state = .streaming)
    (hk : k ≤ P.remain.toNat) : CounterInv (refillCounters k P) := by
  obtain ⟨hstaged, hsum, hlookups, -⟩ := h
  have hnext : (P.next + BitVec.ofNat 16 k).toNat = P.next.toNat + k := by
    rw [BitVec.toNat_add, BitVec.toNat_ofNat]; omega
  have hremain : (P.remain - BitVec.ofNat 16 k).toNat = P.remain.toNat - k := by
    rw [BitVec.toNat_sub, BitVec.toNat_ofNat]; omega
  refine ⟨hstaged, ?_, ?_, fun hs => ?_⟩
  · simp only [refillCounters, hnext, hremain]; omega
  · simp only [refillCounters, hnext, BitVec.toNat_add, BitVec.toNat_ofNat]; omega
  · rcases hs with hs | hs <;> cases hstate.symm.trans hs

/-- FILL_REFILL's port, its window holding words that are emitted whole. -/
theorem PortFacts.refill (h : PortFacts par n begun m p P) (hstate : P.state = .streaming) {k : Nat}
    (hk : k ≤ P.remain.toNat) {cur fill : Pos} (hwin : WindowInv par.w { P with cur := cur, fill := fill })
    (hwords : ∀ k < fill.toNat, (wordAt par.w m' p P k).any emitsWhole = true) :
    PortFacts par n begun m' p (activationEnd { refillCounters k P with cur := cur, fill := fill }) where
  window := { hwin with }
  counters := { h.counters.refill hstate hk with }
  engine := { h.engine with
    idle := fun hi => by cases hstate.symm.trans hi
    frameStart := fun hi => by cases hstate.symm.trans hi
    frameEnd := fun hi => by cases hstate.symm.trans hi }
  config := { h.config with }
  words := ⟨fun _ => hwords, fun hi => by cases hstate.symm.trans hi⟩
  latency := fun _ _ => Nat.zero_le _

/-- FILL_END's port, its window holding words that are emitted whole and then the end marker. -/
theorem PortFacts.endFrame (h : PortFacts par n begun m p P) (hstate : P.state = .streaming) (hremain : P.remain = 0)
    {cur fill : Pos} (hwin : WindowInv par.w { P with cur := cur, fill := fill }) (hfill : fill ≠ 0)
    (hwords : ∀ k < fill.toNat - 1, (wordAt par.w m' p P k).any emitsWhole = true)
    (hlast : wordAt par.w m' p P (fill.toNat - 1) = some (endMarker P.cfg)) :
    PortFacts par n begun m' p (activationEnd (endFrame { P with cur := cur, fill := fill })) := by
  obtain ⟨-, htx, hflag⟩ := h.engine.streaming hstate
  exact {
    window := { hwin with }
    counters := { h.counters with all_encoded := fun _ => hremain }
    engine := {
      one_enable := fun hi => Bool.false_ne_true hi.1
      idle := fun hi => by cases hi
      frameStart := fun hi => by cases hi
      streaming := fun hi => by cases hi
      frameEnd := fun _ => ⟨rfl, rfl, fun _ => ⟨hflag, hfill⟩, fun hi => by cases htx.symm.trans hi⟩
      busy_begun := fun _ => h.engine.busy_begun (by rw [hstate]; decide)
      teardown_busy := fun _ hi => by cases hi }
    config := { h.config with }
    words := ⟨fun hi => (by cases hi), fun _ _ => ⟨hwords, hlast⟩⟩
    latency := fun _ _ => Nat.zero_le _ }

/-- FILL_DONE's port before a deferred TEARDOWN: Idle and at rest (42_encoder_engine.md R207). -/
theorem PortFacts.completeFrame (h : PortFacts par n begun m p P) (hstate : P.state = .frameEnd)
    (hflag : P.txdoneFlag = true) : PortFacts par n begun m p { completeFrame P with tdPending := false, lat := 0 } := by
  obtain ⟨-, hlwm, hon, hoff⟩ := h.engine.frameEnd hstate
  have htx : P.txActive = false := by
    by_contra hactive
    obtain ⟨hclear, -⟩ := hon (by simpa using hactive)
    cases hflag.symm.trans hclear
  obtain ⟨-, hfill⟩ := hoff htx
  exact {
    window := { h.window with }
    counters := { h.counters with all_encoded := fun _ => h.counters.all_encoded (.inr hstate) }
    engine := {
      one_enable := fun hi => Bool.false_ne_true hi.2
      idle := fun _ => ⟨hlwm, rfl, htx, rfl, hfill⟩
      frameStart := fun hi => by cases hi
      streaming := fun hi => by cases hi
      frameEnd := fun hi => by cases hi
      busy_begun := fun hi => absurd rfl hi
      teardown_busy := fun hi => by cases hi }
    config := { h.config with }
    words := portWords_of_idle rfl
    latency := fun _ _ => Nat.zero_le _ }

end

/-- FILL_START finds the window empty, so its reset words have room (42_encoder_engine.md R192). -/
theorem execFillStart_inv {s : State} {p : PortId} (hs : Inv s) (hp : p.toNat < s.ports.length)
    (hstate : (s.port p).state = .frameStart) : Answers Inv (execFillStart p s) := by
  have h := hs.facts hp
  obtain ⟨-, -, -, hfill⟩ := h.engine.frameStart hstate
  obtain ⟨-, -, -, -, -, hdur, -, hcount, -⟩ := (portBad_eq_false ..).1 h.config.valid
  have hroom : (s.port p).fill.toNat + (resetWords (s.port p).cfg).length ≤ s.par.w := by
    simp [hfill, resetWords, hcount]
  obtain ⟨u, hu, hF⟩ := putSyms_filled_self _ hp hs.w_le h.window hroom
  have hemit := Filled.emits (us := resetWords (s.port p).cfg) (vs := []) (by rwa [List.append_nil])
    (by simp [hfill]) (emitsWhole_replicate_quietWord _ hdur _)
  exact hs.of_activation hp hu hF (h.startFrame hstate (hF.window h.window hroom) (by rwa [hF.fill]))

/-- FILL_REFILL writes only what fits (42_encoder_engine.md R196). -/
theorem execFillRefill_inv {s : State} {p : PortId} (hs : Inv s) (hp : p.toNat < s.ports.length)
    (hstate : (s.port p).state = .streaming) : Answers Inv (execFillRefill p s) := by
  have h := hs.facts hp
  obtain ⟨-, hbegun⟩ := h.engine.busy_begun (by rw [hstate]; decide)
  obtain ⟨-, htable, -⟩ := h.config.built hbegun
  have hremain : refillCount s.par (s.port p) ≤ (s.port p).remain.toNat := Nat.min_le_left _ _
  have hfit : refillCount s.par (s.port p) ≤ (s.par.w - (s.port p).fill.toNat) / 8 := Nat.min_le_right _ _
  unfold execFillRefill
  generalize refillCount s.par (s.port p) = k at hremain hfit ⊢
  have hle := h.window.fill_le
  have hroom : (s.port p).fill.toNat + (refillWords s p k).length ≤ s.par.w := by
    rw [refillWords_length]; omega
  have hwhole : ∀ w ∈ refillWords s p k, emitsWhole w = true := by
    rw [refillWords, htable]
    exact emitsWhole_bytesWords h.config.valid _
  have hwindow : WindowInv s.par.w (refillCounters k (s.port p)) := { h.window with }
  obtain ⟨u, hu, hF⟩ := putSyms_filled (refillWords s p k) hp hs.w_le hwindow hroom
  have hold : ∀ j < (refillCounters k (s.port p)).fill.toNat,
      (wordAt s.par.w s.symRam p (refillCounters k (s.port p)) j).any emitsWhole = true := h.words.streaming hstate
  have hemit := Filled.emits (us := refillWords s p k) (vs := []) (by rwa [List.append_nil]) hold hwhole
  rw [refillBytes_eq k hp]
  exact hs.of_activation hp hu hF (h.refill hstate hremain { hF.window hwindow hroom with } (by rw [hF.fill]; exact hemit))

/-- FILL_END finds no more than LWM words, so its latch words and its marker have room (42_encoder_engine.md R203). -/
theorem execFillEnd_inv {s : State} {p : PortId} (hs : Inv s) (hp : p.toNat < s.ports.length)
    (hstate : (s.port p).state = .streaming) (hlow : (s.port p).fill.toNat ≤ s.par.lwm)
    (hremain : (s.port p).remain = 0) : Answers Inv (execFillEnd p s) := by
  have h := hs.facts hp
  obtain ⟨⟨-, -, -, -, hlwm, -⟩, -⟩ := hs.params
  obtain ⟨-, -, -, -, -, -, hdur, -, hcount, -⟩ := (portBad_eq_false ..).1 h.config.valid
  have hlength : (endingWords (s.port p).cfg).length = (s.port p).cfg.latchCount.toNat + 1 := by simp [endingWords]
  have hroom : (s.port p).fill.toNat + (endingWords (s.port p).cfg).length ≤ s.par.w := by omega
  obtain ⟨u, hu, hF⟩ := putSyms_filled_self _ hp hs.w_le h.window hroom
  have hemit := hF.emits (h.words.streaming hstate) (emitsWhole_replicate_quietWord _ hdur _)
  have hmarker := hF.new (s.port p).cfg.latchCount.toNat (by omega)
  have hfill := hF.fill
  have hplace : (u.port p).fill.toNat - 1 = (s.port p).fill.toNat + (s.port p).cfg.latchCount.toNat := by omega
  rw [List.length_replicate] at hemit
  refine hs.of_activation hp hu hF (h.endFrame hstate hremain (hF.window h.window hroom) (fun he => ?_) ?_ ?_)
  · rw [he, hlength] at hfill
    simp at hfill
  · rw [hplace]; exact hemit
  · rw [hplace, hmarker]
    simp [endingWords]

/-- FILL_DONE writes no word, and completes a deferred TEARDOWN (42_encoder_engine.md R207). -/
theorem execFillDone_inv {s : State} {p : PortId} (hs : Inv s) (hp : p.toNat < s.ports.length)
    (hstate : (s.port p).state = .frameEnd) (hflag : (s.port p).txdoneFlag = true) :
    Answers Inv (execFillDone p s) := by
  have h := (hs.facts hp).completeFrame hstate hflag
  rw [execFillDone, onAgent_eq s p _ hp]
  refine inv_setPort hs hp ?_
  rcases frameDone_cases (s.port p) with ⟨-, hf⟩ | ⟨htd, hf⟩ <;> rw [hf]
  · exact h.release rfl
  · have : activationEnd (completeFrame (s.port p)) =
        { completeFrame (s.port p) with tdPending := false, lat := 0 } := by
      rw [← htd]; rfl
    rw [this]
    exact h

/-! ### Every step -/

/-- A pending cause of a port that meets the invariant selects an activation, under that activation's conditions
(42_encoder_engine.md R190, R210). -/
theorem EngineInv.cause_cases {par : Config.Params} {begun : Bool} {P : Port} (h : EngineInv begun P)
    (hc : causePending par P = true) :
    (txdonePending P = true ∧ P.state = .frameEnd) ∨
    (txdonePending P = false ∧ lwmPending par P = true ∧ (P.state = .frameStart ∨ P.state = .streaming)) := by
  have hone : txdonePending P = true ∨ lwmPending par P = true := by simpa [causePending] using hc
  rw [txdonePending_iff, lwmPending_iff] at hone
  rw [Bool.eq_false_iff, ne_eq, txdonePending_iff, lwmPending_iff]
  cases hs : P.state with
  | idle => have := h.idle hs; simp_all
  | frameStart => have := h.frameStart hs; simp_all
  | streaming => have := h.streaming hs; simp_all
  | frameEnd => have := h.frameEnd hs; simp_all

/-- Every filler step keeps the invariant and faults on nothing. -/
theorem exec_filler_inv {s : State} {p : PortId} (hs : Inv s) (hp : p.toNat < s.ports.length)
    (hc : causePending s.par (s.port p) = true) :
    Answers Inv (exec (fillerInstr p (txdonePending (s.port p)) (s.port p).state ((s.port p).remain == 0)) s) := by
  rcases (hs.facts hp).engine.cause_cases hc with ⟨hdone, hstate⟩ | ⟨hnot, hlwm, hstate | hstate⟩
  · rw [hdone, hstate]
    exact execFillDone_inv hs hp hstate ((txdonePending_iff _).1 hdone).2
  · rw [hnot, hstate]
    exact execFillStart_inv hs hp hstate
  · rw [hnot, hstate]
    by_cases hz : (s.port p).remain = 0
    · rw [hz]
      exact execFillEnd_inv hs hp hstate ((lwmPending_iff _ _).1 hlwm).2 hz
    · rw [beq_false_of_ne hz]
      exact execFillRefill_inv hs hp hstate

/-- A transmitter reads the word at RD, where one is written. -/
theorem symRead_of_cellRead {s : State} {p : PortId} {w : Word}
    (h : cellRead s.symRam (symIndex s.par.w p (s.port p).rd.toNat) = some w) :
    symRead s p (s.port p).rd.toNat = w := by
  rw [symRead, symValue, h, Option.getD_some]

/-- Every transmitter step keeps the invariant. -/
theorem Inv.of_txEffect {s : State} {p : PortId} {P : Port} (hs : Inv s) (hp : p.toNat < s.ports.length)
    (htx : txEnabled (s.port p) = true) (hadm : txAdmitted s.par (s.port p) = true)
    (h : TxEffect s.par (symRead s p (s.port p).rd.toNat) (s.port p) P) : Inv (s.advance.setPort p P) := by
  obtain ⟨hactive, -⟩ := (Bool.and_eq_true _ _).mp htx
  have hP := h.keeps (hs.facts hp) hs.w_le hactive hadm fun _ hv => symRead_of_cellRead hv
  exact inv_setPort (hs.of_sameCore (sameCore_advance s)) hp hP

/-- Every instruction a step fetches keeps the invariant and faults on nothing. -/
theorem exec_fetched_inv {s : State} {i : Instr} (hs : Inv s) (h : fetch s = .instr i) :
    Answers Inv (exec i s.advance) := by
  have hs' : Inv s.advance := hs.of_sameCore (sameCore_advance s)
  rcases fetch_instr h with ⟨we, bytes, addr, data, rest, -, hd⟩ | ⟨p, e, rest, -, hp, hen, rfl⟩ |
    ⟨p, rest, -, hp, htx, hadm, ⟨hz, rfl⟩ | ⟨hnz, rfl⟩⟩
  · exact (exec_bus_answers hd s.advance).mono fun t ht => ht.keepsInv hs'
  · obtain ⟨hc, rfl⟩ := activationEntry_some hen
    rw [decodeEvent_eventVector]
    exact exec_filler_inv hs' hp hc
  · obtain ⟨P, hP, hx⟩ := exec_symUnderrun (s := s.advance) (symRead s p (s.port p).rd.toNat) hp hz
    rw [hx]
    exact hs.of_txEffect hp htx hadm hP
  · obtain ⟨P, hP, hx⟩ := exec_decodeSym (s := s.advance) (symRead s p (s.port p).rd.toNat) hp hnz
    rw [hx]
    exact hs.of_txEffect hp htx hadm hP

/-- A collaborator's byte keeps the invariant: host memory alone changes (20_memory.md R82). -/
theorem Inv.of_hostMem {s : State} (hs : Inv s) {a : Nat} (ha : a < s.par.hostMemSize) (b : Byte) :
    Inv { s with hostMem := cellWrite s.hostMem a b } := by
  obtain ⟨hsym, hsymBelow, hmem, hmemBelow⟩ := hs.memory
  exact { hs with
    memory := ⟨hsym, hsymBelow, cellsWf_cellWrite _ _ _ hmem, cellsBelow_cellWrite _ _ ha hmemBelow⟩
    ports := fun p hp => (portInv_iff _ p).2 (hs.facts hp) }

/-- The reset event gives a state that meets the invariant: every port is at reset, and host memory stays
(70_reset_and_hazards.md R280). -/
theorem inv_resetStep {s : State} (hs : Inv s) : Inv (resetStep s) := by
  obtain ⟨h1, h16⟩ := hs.portLimit
  obtain ⟨-, -, hmem, hmemBelow⟩ := hs.memory
  refine ⟨hs.params, by simpa using hs.portLimit, ?_, ⟨rfl, rfl, hmem, hmemBelow⟩, fun p hp => ?_⟩
  · simpa using countBad_ofNat h1 h16
  · exact portInv_of_reset hs.params rfl (resetOf_port s.par (by simpa using hp))

/-- A step from a state that meets the invariant keeps it, and faults on nothing but a byte host memory does not have. -/
theorem step_inv {s : State} (hs : Inv s) : step s = .fault .noHostMemory ∨ Answers Inv (step s) := by
  have hs' : Inv s.advance := hs.of_sameCore (sameCore_advance s)
  unfold step
  split
  · next i hi => exact .inr (exec_fetched_inv hs hi)
  · exact .inr hs
  · exact .inr hs'
  · exact .inr trivial
  · next a b _ =>
    unfold memWriteStep
    split
    · next ha => exact .inr (hs'.of_hostMem ha b)
    · exact .inl rfl
  · exact .inr (inv_resetStep hs')

/-- Settles O47: no step but a fault leaves the invariant, by the agent whose turn it is. -/
theorem stepKeepsTheInvariant : Obligations.StepKeepsTheInvariant := by
  unfold Obligations.StepKeepsTheInvariant
  intro s t hs h
  rcases step_inv hs with hf | ha
  · rw [hf] at h
    cases h
  · exact ha.of_next h

/-- Settles O48: the one fault a step from such a state can raise is another. -/
theorem invariantExcludesFaults : Obligations.InvariantExcludesFaults := by
  unfold Obligations.InvariantExcludesFaults
  intro s hs
  rcases step_inv hs with hf | ha
  · rw [hf]
    exact ⟨nofun, nofun⟩
  · exact ⟨ha.ne_fault _, ha.ne_fault _⟩

/-! ### What the invariant says of the steps to come -/

/-- The port whose transmitter consumes a word by this instruction. -/
def consumedBy : Instr → Option PortId
  | .symEnd p _ _ _ => some p
  | .symHalfEnd p _ _ _ => some p
  | .symEmit p _ _ _ _ => some p
  | _ => none

theorem consumedBy_decodeSym (p : PortId) (w : Word) : consumedBy (decodeSym p w) = some p := by
  rcases decodeSym_cases p w with ⟨-, h⟩ | ⟨-, -, h⟩ | ⟨-, -, h⟩ <;> rw [h] <;> rfl

theorem consumedBy_fillerInstr (p : PortId) (cause : Bool) (st : FrameState) (z : Bool) :
    consumedBy (fillerInstr p cause st z) = none := by
  cases cause <;> cases st <;> cases z <;> rfl

theorem consumedBy_of_bus {we : Bool} {bytes : Nat} {offset data : Word} {i : Instr}
    (h : decode (.bus we bytes offset data) = .ok i) : consumedBy i = none := by
  rcases decode_bus_cases h with rfl | ⟨rfl, -⟩ | ⟨c, rfl⟩
  · rfl
  · rfl
  · cases c <;> rfl

/-- A word is consumed by the running transmitter of a port the machine has, and it is the word at RD. -/
theorem fetch_consumedBy {s : State} {i : Instr} {p : PortId} (h : fetch s = .instr i) (hi : consumedBy i = some p) :
    p.toNat < s.ports.length ∧ (s.port p).txActive = true ∧ (s.port p).fill ≠ 0 ∧
      i = decodeSym p (symRead s p (s.port p).rd.toNat) := by
  rcases fetch_instr h with ⟨we, bytes, addr, data, rest, -, hd⟩ | ⟨q, e, rest, -, -, hen, rfl⟩ |
    ⟨q, rest, -, hq, htx, -, ⟨-, rfl⟩ | ⟨hnz, rfl⟩⟩
  · rw [consumedBy_of_bus hd] at hi
    cases hi
  · obtain ⟨-, rfl⟩ := activationEntry_some hen
    rw [decodeEvent_eventVector, consumedBy_fillerInstr] at hi
    cases hi
  · cases hi
  · rw [consumedBy_decodeSym] at hi
    cases hi
    obtain ⟨hactive, -⟩ := (Bool.and_eq_true _ _).mp htx
    exact ⟨hq, hactive, hnz, rfl⟩

/-- Under the invariant a consumed word is emitted whole, or is the end marker that ends its frame. -/
theorem Inv.consumed_word {s : State} {i : Instr} {p : PortId} (hs : Inv s) (h : fetch s = .instr i)
    (hi : consumedBy i = some p) :
    ∃ w, cellRead s.symRam (symIndex s.par.w p (s.port p).rd.toNat) = some w ∧ i = decodeSym p w ∧
      ((symDur0 w ≠ 0 ∧ symDur1 w ≠ 0) ∨
       ((s.port p).state = .frameEnd ∧ (s.port p).fill = 1 ∧ w = endMarker (s.port p).cfg)) := by
  obtain ⟨hp, htx, hfill, hdecode⟩ := fetch_consumedBy h hi
  obtain ⟨w, hw, hcase⟩ := (hs.facts hp).front_word htx hfill
  rw [symRead_of_cellRead hw] at hdecode
  exact ⟨w, hw, hdecode, hcase.imp_left fun hwhole => (emitsWhole_iff w).1 hwhole.1⟩

/-- Settles O42: a word emitted whole is no end, and the end marker's first duration is 0, so it is no SYM_HALF_END. -/
theorem transmissionEndsOnlyAtTheMarker : Obligations.TransmissionEndsOnlyAtTheMarker := by
  unfold Obligations.TransmissionEndsOnlyAtTheMarker
  rintro s p P hs rfl
  constructor
  · intro lvl1 lvl0 dur0 h
    obtain ⟨w, -, hdecode, hcase⟩ := hs.consumed_word h rfl
    rcases decodeSym_cases p w with ⟨-, hd⟩ | ⟨h0, h1, -⟩ | ⟨-, -, hd⟩
    · cases hdecode.trans hd
    · rcases hcase with ⟨-, hne⟩ | ⟨-, -, rfl⟩
      · exact hne h1
      · exact h0 (symDur0_endMarker _)
    · cases hdecode.trans hd
  · intro lvl1 dur1 lvl0 h
    obtain ⟨w, hw, hdecode, hcase⟩ := hs.consumed_word h rfl
    rcases decodeSym_cases p w with ⟨h0, -⟩ | ⟨-, -, hd⟩ | ⟨-, -, hd⟩
    · rcases hcase with ⟨hne, -⟩ | ⟨hstate, hone, rfl⟩
      · exact absurd h0 hne
      · exact ⟨hstate, hone, hw⟩
    · cases hdecode.trans hd
    · cases hdecode.trans hd

/-- An activation's port after it. -/
theorem Activation.port {p : PortId} {f : Port → Port} {s u t : State} (h : Activation p f s u t)
    (hp : p.toNat < s.ports.length) : t.port p = activationEnd (f (u.port p)) := by
  rw [h.eq, port_setPort_same u p _ (h.frame.length ▸ hp)]

theorem frameDone_state (P : Port) : (frameDone P).state = .idle := by
  rcases frameDone_cases P with ⟨-, h⟩ | ⟨-, h⟩ <;> rw [h] <;> rfl

theorem frameDone_stage (P : Port) : (frameDone P).stage = P.stage := by
  rcases frameDone_cases P with ⟨-, h⟩ | ⟨-, h⟩ <;> rw [h] <;> rfl

/-- Four lookups for each staged byte, once every byte is encoded (42_encoder_engine.md R214). -/
theorem CounterInv.lookups_of_encoded {P : Port} (h : CounterInv P) (hstate : P.state = .idle ∨ P.state = .frameEnd) :
    P.lookups.toNat = 4 * P.stage.length := by
  have hsum := h.next_remain
  rw [h.all_encoded hstate] at hsum
  rw [h.lookups_eq, ← hsum]
  rfl

/-- Settles O58: by the counters' invariant after the step, and what the two activations do to the port. -/
theorem fourLookupsPerStagedByte : Obligations.FourLookupsPerStagedByte := by
  unfold Obligations.FourLookupsPerStagedByte
  intro s t p hs h hp
  have hm := step_sameMachine h
  have ht := (stepKeepsTheInvariant s t hs h).facts (p := p) (hm.length ▸ hp)
  refine ⟨fun hf => ?_, fun z hf => ?_, fun hstate => ht.counters.lookups_of_encoded hstate.symm, ?_⟩
  · rw [step_of_fetch hf] at h
    obtain ⟨-, u, -, ha⟩ := execFillEnd_activation h
    have hstate : (t.port p).state = .frameEnd := by rw [ha.port hp]; rfl
    have hstage : (t.port p).stage = (s.port p).stage := by rw [ha.port hp, ha.frame.port hp]; rfl
    exact ⟨hstate, hstage, hstage ▸ ht.counters.lookups_of_encoded (.inr hstate)⟩
  · rw [step_of_fetch hf] at h
    obtain ⟨-, ha⟩ := execFillDone_activation h
    have hstate : (t.port p).state = .idle := by rw [ha.port hp, activationEnd_state, frameDone_state]
    have hstage : (t.port p).stage = (s.port p).stage := by
      rw [ha.port hp, activationEnd_stage, frameDone_stage]; rfl
    exact ⟨hstate, hstage, hstage ▸ ht.counters.lookups_of_encoded (.inl hstate)⟩
  · rw [← hm.par]
    exact ht.window.cur_lt

/-- A filler with a pending cause has a step (42_encoder_engine.md R190). -/
theorem fillerCode_isSome {s : State} {p : PortId} (hp : p.toNat < s.ports.length)
    (hc : causePending s.par (s.port p) = true) : (fillerCode s p).isSome = true := by
  simp [fillerCode, (hasPort_iff s p).2 hp, activationEntry, hc]

/-- A running transmitter with a word has a step while no cause of its filler is pending: such a step leaves LAT as it is
(43_transmitter.md R230, R238). -/
theorem transmitterCode_isSome {s : State} {p : PortId} (hs : Inv s) (hp : p.toNat < s.ports.length)
    (htx : (s.port p).txActive = true) (hfill : (s.port p).fill ≠ 0)
    (hc : causePending s.par (s.port p) = false) : (transmitterCode s p).isSome = true := by
  have hadm : txAdmitted s.par (s.port p) = true := by
    unfold txAdmitted
    split
    · rfl
    · next bound hb => simpa [latAfterTx, hc] using (hs.facts hp).latency bound hb
  have hen : txEnabled (s.port p) = true := by rw [txEnabled, htx, bne_iff_ne.2 hfill]; rfl
  rw [transmitterCode, (hasPort_iff s p).2 hp, hen, hadm, if_neg hfill]
  rfl

/-- A busy port without a pending cause has a word to send. -/
theorem EngineInv.sends {par : Config.Params} {begun : Bool} {P : Port} (h : EngineInv begun P) (hbusy : P.state ≠ .idle)
    (hc : causePending par P = false) : P.txActive = true ∧ P.fill ≠ 0 := by
  obtain ⟨hdone, hlow⟩ := (Bool.or_eq_false_iff).1 hc
  rw [← Bool.not_eq_true, txdonePending_iff] at hdone
  rw [← Bool.not_eq_true, lwmPending_iff] at hlow
  cases hs : P.state with
  | idle => exact absurd hs hbusy
  | frameStart =>
    obtain ⟨hlwm, -, -, hfill⟩ := h.frameStart hs
    exact absurd ⟨hlwm, by simp [hfill]⟩ hlow
  | streaming =>
    obtain ⟨hlwm, htx, -⟩ := h.streaming hs
    exact ⟨htx, fun he => hlow ⟨hlwm, by simp [he]⟩⟩
  | frameEnd =>
    obtain ⟨hie, -, hon, hoff⟩ := h.frameEnd hs
    have htx : P.txActive = true := by
      by_contra hstop
      exact hdone ⟨hie, (hoff (by simpa using hstop)).1⟩
    exact ⟨htx, (hon htx).2⟩

/-- Settles O59: a pending cause gives the filler a step, and without one the transmitter has a word to send. -/
theorem busyPortHasAStep : Obligations.BusyPortHasAStep := by
  unfold Obligations.BusyPortHasAStep
  intro s p hs hp hbusy
  cases hc : causePending s.par (s.port p) with
  | true => exact .inl (fillerCode_isSome hp hc)
  | false =>
    obtain ⟨htx, hfill⟩ := (hs.facts hp).engine.sends hbusy hc
    exact .inr (transmitterCode_isSome hs hp htx hfill hc)

end Sys2Proof.Machine
end

section
/-! PROOFS. The family 10_state.md, sixth part: what one step does to one port. The sticky bits (R60), the trace (R48) and the
isolation of ports (R22, 60_exceptions.md R270) follow; and what a port's pin shows at rest (R48). -/

namespace Sys2Proof.Machine

/-! ### One step and one port -/

/-- All that a step which is no reset can do to port p. -/
inductive PortEffect (s t : State) (p : PortId) : Prop
  | same : t.port p = s.port p → PortEffect s t p
  | host (i : Instr) : fetch s = .instr i → HostPortEffect s.advance p i (t.port p) → PortEffect s t p
  | installed (c : PortConfig) (valid : Bool) : t.port p = { install c (s.port p) with tableValid := valid } →
    PortEffect s t p
  | filler (rest : List Turn) : s.agenda = .filler p :: rest → FillerEffect s.advance p t → PortEffect s t p
  | transmitter (rest : List Turn) : s.agenda = .transmitter p :: rest →
    TxEffect s.par (symRead s p (s.port p).rd.toNat) (s.port p) (t.port p) → PortEffect s t p

theorem HostEffect.portEffect {s t : State} {i : Instr} {p : PortId} (hp : p.toNat < s.ports.length)
    (hi : fetch s = .instr i) (h : HostEffect i s.advance t) : PortEffect s t p := by
  cases h with
  | core hc => exact .same (hc.port p)
  | port q P hq hP hc =>
    have hport := (hc.port p).trans (port_setPort s.advance q p P hq)
    by_cases hpq : p = q
    · subst hpq
      rw [if_pos rfl] at hport
      exact .host i hi (hport ▸ hP)
    · rw [if_neg hpq] at hport
      exact .same hport
  | begin _ _ hc =>
    obtain ⟨c, -, hport⟩ := beginSetup_port s.advance hp
    exact .installed c true ((hc.port p).trans hport)
  | apply _ _ _ hc =>
    obtain ⟨c, -, hport⟩ := applyConfig_port s.advance hp
    exact .installed c (s.port p).tableValid ((hc.port p).trans hport)

/-- A filler's step is an activation, by one of the four changes of its port. -/
theorem FillerEffect.activation {s t : State} {p : PortId} (h : FillerEffect s p t) :
    ∃ f u, (f = startFrame ∨ f = id ∨ f = endFrame ∨ f = frameDone) ∧ Activation p f s u t := by
  cases h with
  | start u _ ha => exact ⟨startFrame, u, .inl rfl, ha⟩
  | refill u _ ha => exact ⟨id, u, .inr (.inl rfl), ha⟩
  | finish u _ ha => exact ⟨endFrame, u, .inr (.inr (.inl rfl)), ha⟩
  | done ha => exact ⟨frameDone, s, .inr (.inr (.inr rfl)), ha⟩

/-- An activation of one port leaves every other port alone. -/
theorem FillerEffect.other {s t : State} {p q : PortId} (h : FillerEffect s p t) (hq : q ≠ p) :
    t.port q = s.port q := by
  obtain ⟨f, u, -, ha⟩ := h.activation
  rw [ha.eq, port_setPort_ne u _ hq, ha.frame.other q hq]

/-- An activation changes ports and symbol RAM alone. -/
theorem FillerEffect.rest {s t : State} {p : PortId} (h : FillerEffect s p t) :
    t = { s with ports := t.ports, symRam := t.symRam } := by
  obtain ⟨f, u, -, ha⟩ := h.activation
  have hrest := ha.frame.rest
  rw [ha.eq, hrest]
  rfl

/-- What an activation leaves of its own port. -/
theorem FillerEffect.port {s t : State} {p : PortId} (h : FillerEffect s p t) (hp : p.toNat < s.ports.length) :
    ∃ (f : Port → Port) (cur fill remain next : Pos) (lookups : Word),
      (f = startFrame ∨ f = id ∨ f = endFrame ∨ f = frameDone) ∧
      t.port p = activationEnd (f { s.port p with
        cur := cur, fill := fill, lookups := lookups, next := next, remain := remain }) := by
  obtain ⟨f, u, hf, ha⟩ := h.activation
  exact ⟨f, _, _, _, _, _, hf, by rw [ha.port hp, ← ha.frame.port hp]⟩

theorem step_portEffect {s t : State} {p : PortId} (h : step s = .next t) (hp : p.toNat < s.ports.length)
    (hr : fetch s ≠ .reset) : PortEffect s t p := by
  cases step_effect h with
  | quiet hc => exact .same (hc.port p)
  | memWrite addr b _ ht => rw [ht]; exact .same rfl
  | reset hf _ => exact absurd hf hr
  | host i hi he => exact he.portEffect hp hi
  | filler q rest ha _ he =>
    by_cases hpq : p = q
    · subst hpq; exact .filler rest ha he
    · exact .same (he.other hpq)
  | transmitter q rest P ha hq hP ht =>
    have hport := port_setPort s.advance q p P hq
    rw [← ht] at hport
    by_cases hpq : p = q
    · subst hpq
      rw [if_pos rfl] at hport
      exact .transmitter rest ha (hport ▸ hP)
    · rw [if_neg hpq] at hport
      exact .same hport

/-! ### The sticky bits -/

/-- Every sticky bit set in `P` is set in `Q` (10_state.md R60). -/
structure StickyLe (P Q : Port) : Prop where
  errBusy : P.errBusy = true → Q.errBusy = true
  errUnderrun : P.errUnderrun = true → Q.errUnderrun = true
  done : P.done = true → Q.done = true

theorem StickyLe.refl (P : Port) : StickyLe P P := ⟨id, id, id⟩

theorem HostPortEffect.stickyLe {s : State} {p : PortId} {i : Instr} {P : Port} (h : HostPortEffect s p i P)
    (hi : i ≠ .clrerr p) : StickyLe (s.port p) P := by
  cases h with
  | clear => exact absurd rfl hi
  | busy _ _ => exact ⟨fun _ => rfl, id, id⟩
  | _ => exact ⟨id, id, id⟩

theorem stickyLe_frameDone (P : Port) : StickyLe P (frameDone P) := by
  rcases frameDone_cases P with ⟨-, h⟩ | ⟨-, h⟩ <;> rw [h] <;> exact ⟨id, id, fun _ => rfl⟩

theorem FillerEffect.stickyLe {s t : State} {p : PortId} (h : FillerEffect s p t) (hp : p.toNat < s.ports.length) :
    StickyLe (s.port p) (t.port p) := by
  obtain ⟨f, cur, fill, remain, next, lookups, hf, hport⟩ := h.port hp
  rw [hport]
  rcases hf with rfl | rfl | rfl | rfl
  · exact ⟨id, id, id⟩
  · exact ⟨id, id, id⟩
  · exact ⟨id, id, id⟩
  · have hle := stickyLe_frameDone { s.port p with
      cur := cur, fill := fill, lookups := lookups, next := next, remain := remain }
    exact ⟨hle.errBusy, hle.errUnderrun, hle.done⟩

theorem TxEffect.stickyLe {par : Config.Params} {w : Word} {P Q : Port} (h : TxEffect par w P Q) : StickyLe P Q := by
  cases h with
  | underrun _ => exact ⟨id, fun _ => rfl, id⟩
  | _ => exact ⟨id, id, id⟩

/-- Settles O55: CLRERR of the port and reset are the only steps that clear a sticky bit. -/
theorem stickyBitsStayUntilClrerr : Obligations.StickyBitsStayUntilClrerr := by
  unfold Obligations.StickyBitsStayUntilClrerr
  intro s t p h hp hr hclr
  have hle : StickyLe (s.port p) (t.port p) := by
    cases step_portEffect h hp hr with
    | same hport => rw [hport]; exact .refl _
    | host i hi he => exact he.stickyLe fun hne => hclr (hne ▸ hi)
    | installed c valid hport => rw [hport]; exact ⟨id, id, id⟩
    | filler rest _ he => exact he.stickyLe hp
    | transmitter rest _ he => exact he.stickyLe
  exact ⟨hle.errBusy, hle.errUnderrun, hle.done⟩

/-! ### The trace -/

theorem HostPortEffect.trace {s : State} {p : PortId} {i : Instr} {P : Port} (h : HostPortEffect s p i P) :
    P.trace = (s.port p).trace := by
  cases h <;> rfl

theorem frameDone_trace (P : Port) : (frameDone P).trace = P.trace := by
  rcases frameDone_cases P with ⟨-, h⟩ | ⟨-, h⟩ <;> rw [h] <;> rfl

theorem FillerEffect.trace {s t : State} {p : PortId} (h : FillerEffect s p t) (hp : p.toNat < s.ports.length) :
    (t.port p).trace = (s.port p).trace := by
  obtain ⟨f, cur, fill, remain, next, lookups, hf, hport⟩ := h.port hp
  rw [hport]
  rcases hf with rfl | rfl | rfl | rfl
  · rfl
  · rfl
  · rfl
  · rw [activationEnd_trace, frameDone_trace]

theorem TxEffect.trace {par : Config.Params} {w : Word} {P Q : Port} (h : TxEffect par w P Q) :
    ∃ es, Q.trace = P.trace ++ es := by
  cases h with
  | underrun _ => exact ⟨_, rfl⟩
  | symEnd _ _ => exact ⟨[], (List.append_nil _).symm⟩
  | symHalfEnd _ _ _ => exact ⟨_, rfl⟩
  | symEmit _ _ _ => exact ⟨_, rfl⟩

/-- Settles O57: every other step leaves the port's trace as it is. -/
theorem onlyTheTransmitterAppendsToTrace : Obligations.OnlyTheTransmitterAppendsToTrace := by
  unfold Obligations.OnlyTheTransmitterAppendsToTrace
  intro s t p h hp hr hne
  cases step_portEffect h hp hr with
  | same hport => rw [hport] at hne; exact absurd rfl hne
  | host i _ he => exact absurd he.trace hne
  | installed c valid hport => rw [hport] at hne; exact absurd rfl hne
  | filler rest _ he => exact absurd (he.trace hp) hne
  | transmitter rest ha he => exact ⟨⟨rest, ha⟩, he.trace⟩

/-! ### The isolation of ports -/

/-- A turn of an agent passes, or its instruction is executed: no agent's form is rejected. -/
theorem fetchAgent_cases (c : Option Code) :
    fetchAgent c = .pass ∨ (∃ i, fetchAgent c = .instr i) ∨ ∃ r, fetchAgent c = .reject r := by
  cases c with
  | none => exact .inl rfl
  | some c =>
    simp only [fetchAgent, fetchCode]
    split
    · exact .inr (.inl ⟨_, rfl⟩)
    · exact .inr (.inr ⟨_, rfl⟩)

/-- What a step of port p's filler or transmitter can do. -/
theorem agent_step {s t : State} {p : PortId} {rest : List Turn}
    (ha : s.agenda = .filler p :: rest ∨ s.agenda = .transmitter p :: rest) (h : step s = .next t) :
    t = s.advance ∨
    p.toNat < s.ports.length ∧ (FillerEffect s.advance p t ∨ ∃ P, t = s.advance.setPort p P) := by
  have hf : ∃ c, fetch s = fetchAgent c := by
    rcases ha with ha | ha
    · exact ⟨fillerCode s p, by simp only [fetch, ha]⟩
    · exact ⟨transmitterCode s p, by simp only [fetch, ha]⟩
  obtain ⟨c, hc⟩ := hf
  rcases fetchAgent_cases c with hpass | ⟨i, hi⟩ | ⟨r, hr⟩
  · simp only [step, hc, hpass] at h
    cases h
    exact .inl rfl
  · rw [hi] at hc
    rw [step_of_fetch hc] at h
    rcases exec_fetched_cases hc h with ⟨we, bytes, addr, data, tail, hq, -⟩ | ⟨q, tail, hq, hp, he⟩ |
      ⟨q, tail, P, hq, hp, -, ht⟩
    · rcases ha with ha | ha <;> cases hq.symm.trans ha
    · rcases ha with ha | ha <;> cases hq.symm.trans ha
      exact .inr ⟨hp, .inl he⟩
    · rcases ha with ha | ha <;> cases hq.symm.trans ha
      exact .inr ⟨hp, .inr ⟨P, ht⟩⟩
  · simp only [step, hc, hr] at h
    cases h

/-- Settles O53: an activation writes its own port's window, and a transmitter step writes no word. -/
theorem portsAreIsolated : Obligations.PortsAreIsolated := by
  unfold Obligations.PortsAreIsolated
  intro s t p rest ha h
  have hrest : rest = s.agenda.tail := by rcases ha with ha | ha <;> rw [ha, List.tail_cons]
  subst hrest
  rcases agent_step ha h with rfl | ⟨hp, he | ⟨P, rfl⟩⟩
  · exact ⟨rfl, fun _ _ => rfl, fun _ _ _ _ => rfl⟩
  · exact ⟨he.rest, fun q hq => he.other hq, fun hw hcur => FillerEffect.inWindow (s := s.advance) hp hw hcur he⟩
  · exact ⟨rfl, fun q hq => port_setPort_ne s.advance P hq, fun _ _ _ _ => rfl⟩

/-! ### The pin at rest -/

/-- Another index than `p` has this GPIO. -/
theorem gpioElsewhere_iff (p : Nat) (g : Byte) (i : Nat) (Ps : List Port) :
    gpioElsewhere p g i Ps = true ↔ ∃ k P, Ps[k]? = some P ∧ i + k ≠ p ∧ P.cfg.gpioId = g := by
  induction Ps generalizing i with
  | nil => simp [gpioElsewhere]
  | cons P Ps ih =>
    simp only [gpioElsewhere, Bool.or_eq_true, Bool.and_eq_true, decide_eq_true_eq, beq_iff_eq, ih]
    constructor
    · rintro (⟨hi, hg⟩ | ⟨k, Q, hk, hi, hg⟩)
      · exact ⟨0, P, rfl, hi, hg⟩
      · exact ⟨k + 1, Q, hk, by omega, hg⟩
    · rintro ⟨k, Q, hk, hi, hg⟩
      cases k with
      | zero =>
        cases hk
        exact .inl ⟨hi, hg⟩
      | succ k => exact .inr ⟨k, Q, hk, by omega, hg⟩

/-- A GPIO is shared when it is assigned and another port of the machine has it too (60_exceptions.md R269). -/
theorem gpioShared_iff {s : State} (p : PortId) (hlen : s.ports.length ≤ 16) :
    gpioShared s p = true ↔ (s.port p).cfg.gpioId ≠ 0xFF#8 ∧
      ∃ q : PortId, q ≠ p ∧ q.toNat < s.ports.length ∧ (s.port q).cfg.gpioId = (s.port p).cfg.gpioId := by
  rw [gpioShared, Bool.and_eq_true, bne_iff_ne, gpioElsewhere_iff]
  refine and_congr Iff.rfl ⟨?_, ?_⟩
  · rintro ⟨k, P, hk, hne, hg⟩
    obtain ⟨hlt, -⟩ := List.getElem?_eq_some_iff.1 hk
    have hq : (BitVec.ofNat 4 k).toNat = k := by rw [BitVec.toNat_ofNat]; omega
    refine ⟨BitVec.ofNat 4 k, fun he => hne ?_, hq.symm ▸ hlt, ?_⟩
    · rw [← he, hq, Nat.zero_add]
    · rw [State.port, hq, hk]
      exact hg
  · rintro ⟨q, hne, hq, hg⟩
    refine ⟨q.toNat, s.port q, ?_, fun he => hne (BitVec.eq_of_toNat_eq (by omega)), hg⟩
    rw [State.port, List.getElem?_eq_getElem hq, Option.getD_some]

theorem padAtRest_shared {s : State} {p : PortId} (h : gpioShared s p = true) : padAtRest s p = .unspecified := by
  simp [padAtRest, h]

theorem padAtRest_unshared {s : State} {p : PortId} (h : gpioShared s p = false) :
    padAtRest s p = if !(s.port p).padOut then .input
      else if (s.port p).corrupt && (s.port p).state != .idle then .unspecified
      else .drives (offLevel (s.port p).cfg) := by
  simp [padAtRest, h]

/-- Settles O43: the cases of the observation, the GPIO being the port's own or shared. -/
theorem pinAtRestShowsOff : Obligations.PinAtRestShowsOff := by
  unfold Obligations.PinAtRestShowsOff
  intro s p hp hlen
  refine ⟨fun halone => ?_, fun hother hassigned => padAtRest_shared ((gpioShared_iff p hlen).2 ⟨hassigned, hother⟩)⟩
  have hshared : gpioShared s p = false := by
    rw [← Bool.not_eq_true, gpioShared_iff p hlen]
    rintro ⟨hassigned, q, hne, hq, hg⟩
    rcases halone with hnone | halone
    · exact hassigned hnone
    · exact halone q hne hq hg
  rw [padAtRest_unshared hshared]
  refine ⟨fun hin => ?_, fun hout hclean => ?_, fun hout hbusy hcorrupt => ?_⟩
  · rw [hin]; rfl
  · rw [hout]
    rcases hclean with hidle | hclean
    · rw [hidle, bne_self_eq_false, Bool.and_false]; rfl
    · rw [hclean]; rfl
  · rw [hout, hcorrupt, bne_iff_ne.2 hbusy]; rfl

end Sys2Proof.Machine
end

section
/-! PROOFS. The family 10_state.md, seventh part: the register map (R50 to R59), what each register reads
(40_driver_interface.md R122) and what a write does to it (R120). -/

namespace Sys2Proof.Machine

/-! ### The register at an offset -/

theorem ofNat_toNat_of_lt {o : Nat} (h : o < 2 ^ 32) : (BitVec.ofNat 32 o).toNat = o := by
  rw [BitVec.toNat_ofNat, Nat.mod_eq_of_lt h]

/-- The global bank, one register a word (10_state.md R51). -/
theorem regAt_global (limit w : Nat) {o : Nat} (h : o < 0x100) :
    regAt limit w (BitVec.ofNat 32 o) = globalReg (o / 4) := by
  rw [regAt, ofNat_toNat_of_lt (by omega), if_pos h]

/-- Bank p, one register a word (10_state.md R52, R53). -/
theorem regAt_bank {limit : Nat} (w : Nat) {p : PortId} (hp : p.toNat < limit) {j o : Nat} (hj : j < 16)
    (ho : o = 0x100 + 0x40 * p.toNat + 4 * j) : regAt limit w (BitVec.ofNat 32 o) = bankReg p j := by
  have hlt := p.isLt
  rw [regAt, ofNat_toNat_of_lt (by omega), if_neg (by omega), if_pos (by omega), portReg,
    show (o - 0x100) / 0x40 = p.toNat by omega, if_pos hp, BitVec.ofNat_toNat, BitVec.setWidth_eq,
    show (o - 0x100) % 0x40 / 4 = j by omega]

/-- Word j of entry v of table p (10_state.md R58). -/
theorem regAt_table {limit : Nat} (w : Nat) {p : PortId} (hp : p.toNat < limit) (v : BitVec 2) (j : Bool) {o : Nat}
    (ho : o = 0x800 + 0x20 * p.toNat + 8 * v.toNat + 4 * j.toNat) :
    regAt limit w (BitVec.ofNat 32 o) = .table p v j := by
  have hp4 := p.isLt
  have hv := v.isLt
  have hj := j.toNat_lt
  rw [regAt, ofNat_toNat_of_lt (by omega), if_neg (by omega), if_neg (by omega), if_neg (by omega), if_pos (by omega),
    tableReg, show (o - 0x800) / 0x20 = p.toNat by omega, if_pos hp, BitVec.ofNat_toNat, BitVec.setWidth_eq,
    show (o - 0x800) % 0x20 / 8 = v.toNat by omega, BitVec.ofNat_toNat, BitVec.setWidth_eq,
    show (o - 0x800) % 8 / 4 = j.toNat by omega]
  cases j <;> rfl

/-- Symbol RAM word i (10_state.md R59). -/
theorem regAt_sym {limit w i : Nat} (hlimit : limit ≤ 16) (hw : w ≤ 65535) (hi : i < limit * w) :
    regAt limit w (BitVec.ofNat 32 (0x1000 + 4 * i)) = .sym i := by
  have hsize : limit * w ≤ 16 * 65535 := Nat.mul_le_mul hlimit hw
  rw [regAt, ofNat_toNat_of_lt (by omega), if_neg (by omega), if_neg (by omega), if_neg (by omega), if_neg (by omega),
    if_neg (by omega), if_pos (by omega), show (0x1000 + 4 * i - 0x1000) / 4 = i by omega]

/-- A read of bank p (10_state.md R52, R53). -/
theorem hostRead_bank {s : State} {p : PortId} (hp : p.toNat < s.ports.length) {o : Nat} (j : Nat) (hj : j < 16)
    (ho : o = 0x100 + 0x40 * p.toNat + 4 * j) : hostRead s o = readReg s (bankReg p j) := by
  rw [hostRead, State.reg, regAt_bank s.par.w hp hj ho]

/-- A read of the global bank (10_state.md R51). -/
theorem hostRead_global (s : State) {o : Nat} (h : o < 0x100) : hostRead s o = readReg s (globalReg (o / 4)) := by
  rw [hostRead, State.reg, regAt_global _ _ h]

/-! ### Words from their fields -/

/-- A configuration register's value (10_state.md R52). -/
def cfgValue (c : PortConfig) : CfgReg → Nat
  | .pctrl => c.en.toNat + 2 * c.inv.toNat + 4 * c.doneIe.toNat
  | .pgpio => c.gpioId.toNat
  | .pt0 => c.t0h.toNat + 2 ^ 16 * c.t0l.toNat
  | .pt1 => c.t1h.toNat + 2 ^ 16 * c.t1l.toNat
  | .prst => c.resetDur.toNat + 2 ^ 16 * c.resetCount.toNat
  | .plat => c.latchDur.toNat + 2 ^ 16 * c.latchCount.toNat
  | .pnslots => c.k.toNat
  | .psrc => c.src.toNat

theorem cfgWord_toNat (c : PortConfig) (r : CfgReg) : (cfgWord c r).toNat = cfgValue c r := by
  cases r <;> simp only [cfgWord, cfgValue, toNat_append_eq, BitVec.toNat_ofBool, BitVec.toNat_ofNat] <;> omega

/-- The two halves of a word. -/
theorem toNat_halves (x y : Pos) : BitVec.toNat (x ++ y : Word) = y.toNat + 2 ^ 16 * x.toNat := by
  rw [toNat_append_eq, Nat.add_comm]

/-- PSTATUS's value, by its bits' weights (10_state.md R53). -/
theorem pstatusWord_toNat (P : Port) : (pstatusWord P).toNat =
    (stateCode P.state).toNat + 4 * P.txActive.toNat + 8 * P.tableValid.toNat + 16 * P.lwmIe.toNat +
      32 * P.txdoneIe.toNat + 64 * P.tdPending.toNat + 128 * P.padOut.toNat + 256 * P.errBusy.toNat +
      512 * P.errUnderrun.toNat + 1024 * P.done.toNat + 2048 * P.starved.toNat + 4096 * P.txdoneFlag.toNat := by
  simp only [pstatusWord, toNat_append_eq, BitVec.toNat_ofBool, BitVec.toNat_ofNat]
  omega

theorem resultWord_toNat (r : Result) :
    (resultWord r).toNat = (resultCode r.code).toNat + 2 ^ 8 * r.port.toNat + 2 ^ 16 * r.accepted.toNat := by
  simp only [resultWord, toNat_append_eq, BitVec.toNat_ofBool, BitVec.toNat_ofNat]
  omega

theorem gstatusWord_toNat (s : State) : (gstatusWord s).toNat = s.begun.toNat + 2 * (irqLevel s).toNat := by
  simp only [gstatusWord, toNat_append_eq, BitVec.toNat_ofBool, BitVec.toNat_ofNat]
  omega

/-- Byte j of NAME i (10_state.md R51). -/
theorem nameWord_byte (par : Config.Params) (i : Nat) {j : Nat} (hj : j < 4) :
    (nameWord par i).toNat / 2 ^ (8 * j) % 2 ^ 8 = (nameByte par (4 * i + j)).toNat := by
  have h0 := (nameByte par (4 * i)).isLt
  have h1 := (nameByte par (4 * i + 1)).isLt
  have h2 := (nameByte par (4 * i + 2)).isLt
  have h3 := (nameByte par (4 * i + 3)).isLt
  simp only [nameWord, toNat_append_eq]
  have hcases : j = 0 ∨ j = 1 ∨ j = 2 ∨ j = 3 := by omega
  rcases hcases with rfl | rfl | rfl | rfl
  · simp only [Nat.mul_zero, Nat.pow_zero, Nat.div_one, Nat.add_zero]; omega
  · omega
  · omega
  · omega

/-- Bit k of a word of port bits is port k's (10_state.md R51). -/
theorem portBits_getLsbD (f : Port → Bool) (Ps : List Port) (k : Nat) :
    (portBits f Ps).getLsbD k = (decide (k < 32) && (Ps[k]?).any f) := by
  induction Ps generalizing k with
  | nil => simp [portBits]
  | cons P Ps ih =>
    simp only [portBits, BitVec.getLsbD_or, BitVec.getLsbD_shiftLeft, ih, BitVec.getLsbD_setWidth,
      BitVec.getLsbD_ofBool]
    cases k with
    | zero => simp
    | succ k =>
      by_cases hk : k + 1 < 32
      · simp [hk, show k < 32 by omega]
      · simp [hk]

theorem portBits_port (f : Port → Bool) {s : State} {p : PortId} (hp : p.toNat < s.ports.length) :
    (portBits f s.ports).getLsbD p.toNat = f (s.port p) := by
  have hp4 := p.isLt
  rw [portBits_getLsbD, State.port, List.getElem?_eq_getElem hp, decide_eq_true (show p.toNat < 32 by omega)]
  rfl

theorem portBits_beyond (f : Port → Bool) (Ps : List Port) {k : Nat} (hk : Ps.length ≤ k) :
    (portBits f Ps).getLsbD k = false := by
  simp [portBits_getLsbD, hk]

/-! ### Reads -/

/-- Settles O13: each register of the global bank, by its word. -/
theorem globalRegistersRead : Obligations.GlobalRegistersRead := by
  unfold Obligations.GlobalRegistersRead
  intro s
  have hname : ∀ i < 4, hostRead s (4 * i) = nameWord s.par i := fun i hi => by
    rw [hostRead_global s (by omega), Nat.mul_div_cancel_left i (by omega)]
    have hcases : i = 0 ∨ i = 1 ∨ i = 2 ∨ i = 3 := by omega
    rcases hcases with rfl | rfl | rfl | rfl <;> rfl
  have hcount : hostRead s 0x010 = 0#24 ++ s.n := hostRead_global s (by omega)
  have hresult : hostRead s 0x01C = resultWord s.result := hostRead_global s (by omega)
  have hpresent : hostRead s 0x020 = portBits Port.present s.ports := hostRead_global s (by omega)
  have hirq : hostRead s 0x024 = portBits portIrq s.ports := hostRead_global s (by omega)
  have hgstatus : hostRead s 0x028 = gstatusWord s := hostRead_global s (by omega)
  refine ⟨fun i hi => ?_, ?_, hostRead_global s (by omega), hostRead_global s (by omega), ?_, fun p hp => ?_,
    fun k hk => ?_, ?_⟩
  · rw [hname _ (by omega), nameWord_byte _ _ (Nat.mod_lt i (by omega)), Nat.div_add_mod]
    rfl
  · rw [hcount, toNat_append_eq]
    simp
  · rw [hresult, resultWord_toNat]
    cases s.result.code <;> rfl
  · rw [hpresent, hirq, portBits_port _ hp, portBits_port _ hp]
    exact ⟨rfl, rfl⟩
  · rw [hpresent, hirq]
    exact ⟨portBits_beyond _ _ hk, portBits_beyond _ _ hk⟩
  · rw [hgstatus, gstatusWord_toNat]
    rfl

/-- A read of a configuration register (10_state.md R52). -/
theorem hostRead_cfg {s : State} {p : PortId} (hp : p.toNat < s.ports.length) {o j : Nat} {r : CfgReg} (hj : j < 16)
    (ho : o = 0x100 + 0x40 * p.toNat + 4 * j) (hr : bankReg p j = .cfg p r) :
    (hostRead s o).toNat = cfgValue (s.port p).cfg r := by
  rw [hostRead_bank hp j hj ho, hr]
  exact cfgWord_toNat _ r

/-- Settles O14: the registers' values, one by one. -/
theorem configurationRegistersReadEffective : Obligations.ConfigurationRegistersReadEffective := by
  unfold Obligations.ConfigurationRegistersReadEffective
  rintro s p c hp rfl
  exact ⟨hostRead_cfg hp (j := 0) (by omega) (by omega) rfl, hostRead_cfg hp (j := 1) (by omega) (by omega) rfl,
    hostRead_cfg hp (j := 2) (by omega) (by omega) rfl, hostRead_cfg hp (j := 3) (by omega) (by omega) rfl,
    hostRead_cfg hp (j := 4) (by omega) (by omega) rfl, hostRead_cfg hp (j := 5) (by omega) (by omega) rfl,
    hostRead_cfg hp (j := 6) (by omega) (by omega) rfl, hostRead_bank hp 7 (by omega) (by omega)⟩

/-- Settles O15: the registers' words, one by one. -/
theorem statusRegistersRead : Obligations.StatusRegistersRead := by
  unfold Obligations.StatusRegistersRead
  rintro s p P hp rfl
  refine ⟨?_, ?_, ?_, ?_, hostRead_bank hp 12 (by omega) (by omega), hostRead_bank hp 13 (by omega) (by omega), ?_,
    hostRead_bank hp 15 (by omega) (by omega)⟩
  · rw [hostRead_bank hp 8 (by omega) (by omega)]
    exact (pstatusWord_toNat _).trans (by cases (s.port p).state <;> rfl)
  · rw [hostRead_bank hp 9 (by omega) (by omega)]
    exact toNat_halves 0 _
  · rw [hostRead_bank hp 10 (by omega) (by omega)]
    exact toNat_halves _ _
  · rw [hostRead_bank hp 11 (by omega) (by omega)]
    exact toNat_halves 0 _
  · rw [hostRead_bank hp 14 (by omega) (by omega)]
    exact toNat_halves 0 _

/-- Settles O16: the two readback areas. -/
theorem tableAndSymbolRamReadBack : Obligations.TableAndSymbolRamReadBack := by
  unfold Obligations.TableAndSymbolRamReadBack
  intro s hlimit hw
  refine ⟨fun p v hp => ⟨?_, ?_⟩, fun i hi => ?_⟩
  · rw [hostRead, State.reg, regAt_table s.par.w hp v false (by simp)]
    rfl
  · rw [hostRead, State.reg, regAt_table s.par.w hp v true (by simp; omega)]
    rfl
  · rw [hostRead, State.reg, regAt_sym hlimit hw hi]
    rfl

/-! ### Reserved offsets and ignored writes -/

/-- A register a host write acts on (40_driver_interface.md R120). -/
def Reg.writable : Reg → Bool
  | .count => true
  | .updateInterval => true
  | .cmd => true
  | .cfg _ _ => true
  | _ => false

/-- Every other register ignores a write (10_state.md R50). -/
theorem writeReg_of_not_writable (s : State) (data : Word) {r : Reg} (h : r.writable = false) :
    writeReg s data r = .next s := by
  cases r with
  | count => cases h
  | updateInterval => cases h
  | cmd => cases h
  | cfg p r => cases h
  | _ => rfl

theorem globalReg_of_le {j : Nat} (h : 11 ≤ j) : globalReg j = .reserved := by
  obtain ⟨k, rfl⟩ := Nat.exists_eq_add_of_le' h
  rfl

theorem globalReg_writable {j : Nat} (h : (globalReg j).writable = true) : j = 4 ∨ j = 5 ∨ j = 6 := by
  unfold globalReg at h
  split at h <;> simp_all [Reg.writable]

theorem bankReg_writable {p : PortId} {j : Nat} (h : (bankReg p j).writable = true) : j < 8 := by
  unfold bankReg at h
  split at h <;> simp_all [Reg.writable]

/-- The writable registers lie at the writable offsets alone (10_state.md R51, R52). -/
theorem regAt_writable {limit w : Nat} {o : Word} (halign : o.toNat % 4 = 0)
    (h : (regAt limit w o).writable = true) : writableOffset limit o.toNat := by
  rcases regAt_cases limit w o with ⟨hlt, hr⟩ | ⟨hlo, hhi, hp, hr⟩ | ⟨_, _, _, hr⟩ | ⟨_, hr⟩ | hr <;> rw [hr] at h
  · have hword := globalReg_writable h
    omega
  · have hword := bankReg_writable h
    omega
  · cases h
  · cases h
  · cases h

/-- The reserved offsets name no register (10_state.md R50 to R59). -/
theorem regAt_reserved {limit w : Nat} {o : Word} (halign : o.toNat % 4 = 0) (h : reservedOffset limit w o.toNat) :
    regAt limit w o = .reserved := by
  unfold regAt
  split
  · exact globalReg_of_le (by omega)
  · split
    · unfold portReg
      split
      · rw [show (o.toNat - 0x100) % 0x40 / 4 = 15 by omega]; rfl
      · rfl
    · split
      · rfl
      · split
        · rw [tableReg, if_neg (by omega)]
        · split
          · rfl
          · rw [if_neg (by omega)]

/-- Settles O17: by the register at the offset. -/
theorem reservedReadsZeroAndIgnoredWrites : Obligations.ReservedReadsZeroAndIgnoredWrites := by
  unfold Obligations.ReservedReadsZeroAndIgnoredWrites
  intro s offset data halign
  refine ⟨fun hres => ?_, fun hro => ?_⟩
  · rw [hostRead, BitVec.ofNat_toNat, BitVec.setWidth_eq, State.reg, regAt_reserved halign hres]
    rfl
  · show execHostWr offset data s = .next s
    rw [execHostWr, if_pos ((aligned_iff offset).2 halign)]
    refine writeReg_of_not_writable s data ?_
    rw [← Bool.not_eq_true]
    exact fun hw => hro (regAt_writable halign hw)

/-! ### Writes -/

/-- A write of a configuration register: its port's shadow and PRESENT (40_driver_interface.md R120). -/
theorem exec_hostWr_cfg {s : State} {p : PortId} (hp : p.toNat < s.ports.length) (data : Word) {o j : Nat} {r : CfgReg}
    (hj : j < 16) (ho : o = 0x100 + 0x40 * p.toNat + 4 * j) (hr : bankReg p j = .cfg p r) :
    exec (.hostWr (BitVec.ofNat 32 o) data) s = .next (s.setPort p (shadowWrite r data (s.port p))) := by
  have hp4 := p.isLt
  have halign : aligned (BitVec.ofNat 32 o) = true := (aligned_iff _).2 (by rw [ofNat_toNat_of_lt (by omega)]; omega)
  show execHostWr _ data s = _
  rw [execHostWr, if_pos halign, State.reg, regAt_bank _ hp hj ho, hr]
  rfl

theorem extractLsb'_zero_eq (w : Nat) (data : Word) : data.extractLsb' 0 w = BitVec.ofNat w data.toNat := rfl

theorem extractLsb'_half_eq (w : Nat) (data : Word) :
    data.extractLsb' 16 w = BitVec.ofNat w (data.toNat / 2 ^ 16) := by
  rw [← Nat.shiftRight_eq_div_pow]; rfl

/-- Settles O18: the registers' writes, one by one. -/
theorem configurationWritesSetShadow : Obligations.ConfigurationWritesSetShadow := by
  unfold Obligations.ConfigurationWritesSetShadow
  rintro s p data P hp rfl
  simp only [← extractLsb'_zero_eq, ← extractLsb'_half_eq]
  exact ⟨exec_hostWr_cfg hp data (j := 0) (by omega) (by omega) rfl,
    exec_hostWr_cfg hp data (j := 1) (by omega) (by omega) rfl,
    exec_hostWr_cfg hp data (j := 2) (by omega) (by omega) rfl,
    exec_hostWr_cfg hp data (j := 3) (by omega) (by omega) rfl,
    exec_hostWr_cfg hp data (j := 4) (by omega) (by omega) rfl,
    exec_hostWr_cfg hp data (j := 5) (by omega) (by omega) rfl,
    exec_hostWr_cfg hp data (j := 6) (by omega) (by omega) rfl,
    exec_hostWr_cfg hp data (j := 7) (by omega) (by omega) rfl⟩

/-- A write of the global bank (10_state.md R51). -/
theorem exec_hostWr_global (s : State) (data : Word) {o : Nat} (ho : o < 0x100) (halign : o % 4 = 0) :
    exec (.hostWr (BitVec.ofNat 32 o) data) s = writeReg s data (globalReg (o / 4)) := by
  show execHostWr _ data s = _
  rw [execHostWr, if_pos ((aligned_iff _).2 (by rw [ofNat_toNat_of_lt (by omega)]; exact halign)), State.reg,
    regAt_global _ _ ho]

/-- Settles O19: the two writable registers of the global bank but for CMD. -/
theorem globalWritesSetShadow : Obligations.GlobalWritesSetShadow := by
  unfold Obligations.GlobalWritesSetShadow
  exact fun s data => ⟨exec_hostWr_global s data (o := 0x010) (by omega) (by omega),
    exec_hostWr_global s data (o := 0x014) (by omega) (by omega)⟩

end Sys2Proof.Machine
end

section
/-! PROOFS. The family 20_memory.md, first part: what an access is decoded to and what its step runs (R77, R79, R80;
30_encoding.md R89 to R100). -/

namespace Sys2Proof.Machine

/-! ### Decoded instructions -/

/-- An access is an instruction exactly when it is 32 bits wide and aligned (R77). -/
theorem decode_bus_ok {we : Bool} {bytes : Nat} {offset data : Word} {i : Instr} :
    decode (.bus we bytes offset data) = .ok i ↔
      bytes = 4 ∧ aligned offset = true ∧ i = decodeBus we offset data := by
  simp only [decode]
  split
  · next hw => simp [hw]
  · next hw =>
    split
    · next ha => simp [not_not.1 hw, ha, eq_comm]
    · next ha => simp [ha]

theorem decode_bus_narrow (we : Bool) {bytes : Nat} (offset data : Word) (h : bytes ≠ 4) :
    decode (.bus we bytes offset data) = .error .accessWidth := if_pos h

theorem decode_bus_misaligned (we : Bool) {offset : Word} (data : Word) (h : aligned offset = false) :
    decode (.bus we 4 offset data) = .error .misaligned := by
  simp [decode, h]

/-- A command word is illegal in its own row, or legal (30_encoding.md R92). -/
theorem commandInstr_commandOf_wf (w : Word) : (commandInstr (commandOf w)).wf = true := by
  unfold commandOf
  split
  · next hill =>
    split
    · next hmsb => exact hmsb
    · next hmsb => simp [commandInstr, Instr.wf, hill, hmsb]
  · split <;> rfl

theorem decodeBus_wf (we : Bool) {offset : Word} (data : Word) (h : aligned offset = true) :
    (decodeBus we offset data).wf = true := by
  unfold decodeBus
  split
  · split
    · exact commandInstr_commandOf_wf data
    · next hcmd => simp [Instr.wf, h, hcmd]
  · exact h

/-- Each class of symbol word has the durations of its class (30_encoding.md R97). -/
theorem decodeSym_wf (p : PortId) (w : Word) : (decodeSym p w).wf = true := by
  rcases decodeSym_cases p w with ⟨-, h⟩ | ⟨h0, -, h⟩ | ⟨h0, h1, h⟩ <;> rw [h]
  · rfl
  · exact bne_iff_ne.2 h0
  · exact (Bool.and_eq_true _ _).mpr ⟨bne_iff_ne.2 h0, bne_iff_ne.2 h1⟩

/-- A vector that selects no activation selects none for any port (30_encoding.md R100). -/
theorem decodeEvent_wf (p : PortId) (e : BitVec 4) : (decodeEvent p e).wf = true := by
  unfold decodeEvent
  split
  · rfl
  · next hstart =>
    split
    · split <;> rfl
    · next hstream =>
      split
      · rfl
      · next hdone =>
        have hspurious : decodeEvent 0 e = .spuriousCause 0 e := by
          rw [decodeEvent, if_neg hstart, if_neg hstream, if_neg hdone]
        simp only [Instr.wf, selectsFill, hspurious, Bool.not_false]

/-- Settles O2: by the encoded form, each decoder's answers being well formed. -/
theorem decodedInstructionsAreWellFormed : Obligations.DecodedInstructionsAreWellFormed := by
  unfold Obligations.DecodedInstructionsAreWellFormed
  intro c i h
  cases c with
  | bus we bytes offset data =>
    obtain ⟨-, halign, rfl⟩ := decode_bus_ok.1 h
    exact decodeBus_wf we data halign
  | sym p w => cases h; exact decodeSym_wf p w
  | event p e => cases h; exact decodeEvent_wf p e
  | drained p => cases h; rfl

/-! ### What each turn fetches -/

theorem fetchCode_ok {c : Code} {i : Instr} (h : decode c = .ok i) : fetchCode c = .instr i := by
  simp [fetchCode, h]

theorem fetchCode_error {c : Code} {r : Reject} (h : decode c = .error r) : fetchCode c = .reject (rejection r) := by
  simp [fetchCode, h]

theorem step_of_reject {s : State} {r : Refusal} (h : fetch s = .reject r) : step s = .refused r := by
  simp [step, h]

theorem advance_of_agenda {s : State} {turn : Turn} {rest : List Turn} (h : s.agenda = turn :: rest) :
    s.advance = { s with agenda := rest, draws := s.draws + 1 } := by
  simp [State.advance, h]

section
variable {s : State} {rest : List Turn}

theorem fetch_host {we : Bool} {bytes : Nat} {addr data : Word} (h : s.agenda = .host we bytes addr data :: rest) :
    fetch s = fetchCode (.bus we bytes (addr - s.par.base) data) := by
  simp only [fetch, h, busOffset]

/-- A filler with a cause pending presents its event vector (42_encoder_engine.md R190). -/
theorem fetch_filler {p : PortId} {e : BitVec 4} (h : s.agenda = .filler p :: rest) (hp : p.toNat < s.ports.length)
    (he : activationEntry s.par (s.port p) = some e) : fetch s = fetchCode (.event p e) := by
  simp [fetch, h, fillerCode, (hasPort_iff s p).2 hp, he, fetchAgent]

/-- An enabled and admitted transmitter presents the word at RD, or no word (43_transmitter.md R230). -/
theorem fetch_transmitter {p : PortId} (h : s.agenda = .transmitter p :: rest) (hp : p.toNat < s.ports.length)
    (hen : txEnabled (s.port p) = true) (hadm : txAdmitted s.par (s.port p) = true) :
    fetch s = fetchCode
      (if (s.port p).fill = 0 then .drained p else .sym p (symRead s p (s.port p).rd.toNat)) := by
  simp only [fetch, h, transmitterCode, (hasPort_iff s p).2 hp, hen, hadm, Bool.and_self, if_true]
  split <;> rfl

theorem fetch_memWrite {addr : Word} {b : Byte} (h : s.agenda = .memWrite addr b :: rest) :
    fetch s = .memWrite addr b := by
  simp only [fetch, h]

/-- The step of a turn that presents `c`, where `c` is an instruction. -/
theorem step_of_code {turn : Turn} {c : Code} {i : Instr} (h : s.agenda = turn :: rest) (hf : fetch s = fetchCode c)
    (hd : decode c = .ok i) : step s = exec i { s with agenda := rest, draws := s.draws + 1 } := by
  rw [step_of_fetch (hf.trans (fetchCode_ok hd)), advance_of_agenda h]

end

/-- Settles O5: by whose turn it is, from what that agent presents. -/
theorem stepRunsTheDecodedInstruction : Obligations.StepRunsTheDecodedInstruction := by
  unfold Obligations.StepRunsTheDecodedInstruction
  intro s rest i
  refine ⟨fun we bytes addr data h hd => step_of_code h (fetch_host h) hd,
    fun p e h hp he hd => step_of_code h (fetch_filler h hp he) hd,
    fun p h hp hen hadm hf hd => step_of_code h ?_ hd, fun p h hp hen hadm hf hd => step_of_code h ?_ hd⟩
  · rw [fetch_transmitter h hp hen hadm, if_neg hf]
  · rw [fetch_transmitter h hp hen hadm, if_pos hf]

/-! ### Host accesses -/

theorem aligned_eq_false {o : Word} (h : o.toNat % 4 ≠ 0) : aligned o = false := by
  rw [← Bool.not_eq_true, aligned_iff]
  exact h

/-- Settles O10: the decoder's two rejections, and the same test in the accesses' own meanings. -/
theorem narrowOrMisalignedAccessIsRefused : Obligations.NarrowOrMisalignedAccessIsRefused := by
  unfold Obligations.NarrowOrMisalignedAccessIsRefused
  intro s
  refine ⟨fun we bytes addr data rest h => ⟨fun hw => ?_, fun hw hmis => ?_⟩, fun offset data hmis => ?_⟩
  · exact step_of_reject ((fetch_host h).trans (fetchCode_error (decode_bus_narrow we _ data hw)))
  · subst hw
    exact step_of_reject
      ((fetch_host h).trans (fetchCode_error (decode_bus_misaligned we data (aligned_eq_false hmis))))
  · have hnot : ¬ aligned offset = true := by simp [aligned_eq_false hmis]
    exact ⟨if_neg hnot, if_neg hnot⟩

/-- Settles O12: the one write of an aligned HOST_RD is to busData. -/
theorem hostReadHasNoSideEffect : Obligations.HostReadHasNoSideEffect := by
  unfold Obligations.HostReadHasNoSideEffect
  intro s offset halign
  have hread : hostRead s offset.toNat = readReg s (s.reg offset) := by simp [hostRead]
  rw [hread]
  exact if_pos ((aligned_iff offset).2 halign)

end Sys2Proof.Machine
end

section
/-! PROOFS. The family 20_memory.md, second part: what is written to the two memories and copied from host memory (R70 to
R74), and their canonical form (log entry 11). -/

namespace Sys2Proof.Machine

/-! ### Host memory -/

/-- A byte of host memory after a write of one byte (R70). -/
theorem hostByte_cellWrite (m : HostMem) (a x : Nat) (b : Byte) :
    hostByte (cellWrite m a b) x = if x = a then b else hostByte m x := by
  rw [hostByte, cellRead_cellWrite]
  split <;> rfl

/-- Settles O11: the write is one of the sparse memory, below HOST_MEM_SIZE alone. -/
theorem collaboratorWritesOneByte : Obligations.CollaboratorWritesOneByte := by
  unfold Obligations.CollaboratorWritesOneByte
  intro s addr b rest h
  have hstep : step s = memWriteStep addr b { s with agenda := rest, draws := s.draws + 1 } := by
    rw [← advance_of_agenda h]
    simp [step, fetch_memWrite h]
  rw [hstep]
  exact ⟨fun hlt => ⟨_, if_pos hlt, rfl, fun a => hostByte_cellWrite s.hostMem addr.toNat a b⟩,
    fun hle => if_neg (Nat.not_lt.2 hle)⟩

/-- An ARM that is performed (42_encoder_engine.md R186). -/
theorem execArm_performed {s : State} {p : PortId} (hp : p.toNat < s.ports.length) (hb : s.begun = true)
    (hidle : (s.port p).state = .idle) (hen : (s.port p).cfg.en = true)
    (hmem : beyondHostMem s.par (s.port p).cfg = false) :
    execArm p s = .next ((s.setPort p (armPort s.hostMem (s.port p))).report .ok p) := by
  simp [execArm, portCommand, (hasPort_iff s p).2 hp, hb, hidle, hen, hmem, finish]

/-- Settles O32: what is staged is the copy of the K bytes from SRC on. -/
theorem armStartsAFrame : Obligations.ArmStartsAFrame := by
  unfold Obligations.ArmStartsAFrame
  rintro s p P hp rfl hb hidle hen hmem
  have hfits : beyondHostMem s.par (s.port p).cfg = false := decide_eq_false (Nat.not_lt.2 hmem)
  exact ⟨hostBytes s.hostMem (s.port p).cfg.src.toNat (s.port p).cfg.k.toNat, execArm_performed hp hb hidle hen hfits,
    hostBytes_length _ _ _, fun i hi => hostBytes_getElem _ _ _ i hi⟩

/-! ### The canonical form -/

/-- `t` has the canonical form in both memories if `s` has it. -/
structure KeepsCanonical (s t : State) : Prop where
  symRam : cellsWf s.symRam = true → cellsWf t.symRam = true
  hostMem : cellsWf s.hostMem = true → cellsWf t.hostMem = true

theorem keepsCanonical_of_eq {s t : State} (hsym : t.symRam = s.symRam) (hhost : t.hostMem = s.hostMem) :
    KeepsCanonical s t := ⟨fun h => hsym ▸ h, fun h => hhost ▸ h⟩

theorem SameCore.keepsCanonical {s t : State} (h : SameCore s t) : KeepsCanonical s t :=
  keepsCanonical_of_eq h.symRam h.hostMem

/-- No host instruction writes a memory of the model: ARM reads host memory, and symbol RAM is the fillers'. -/
theorem HostEffect.keepsCanonical {i : Instr} {s t : State} (h : HostEffect i s t) : KeepsCanonical s t := by
  cases h with
  | core hc => exact hc.keepsCanonical
  | port p P _ _ hc => exact keepsCanonical_of_eq hc.symRam hc.hostMem
  | begin _ _ hc => exact keepsCanonical_of_eq hc.symRam hc.hostMem
  | apply _ _ _ hc => exact keepsCanonical_of_eq hc.symRam hc.hostMem

/-- A filler writes symbol RAM by PutSym alone, and no host memory. -/
theorem FillerEffect.keepsCanonical {s t : State} {p : PortId} (h : FillerEffect s p t) : KeepsCanonical s t where
  symRam := by
    obtain ⟨f, u, -, ha⟩ := h.activation
    rw [ha.eq]
    exact ha.frame.wf
  hostMem := by rw [h.rest]; exact id

theorem step_keepsCanonical {s t : State} (h : step s = .next t) : KeepsCanonical s t := by
  cases step_effect h with
  | quiet hc => exact hc.keepsCanonical
  | memWrite addr b _ ht => rw [ht]; exact ⟨id, cellsWf_cellWrite s.hostMem addr.toNat b⟩
  | reset _ ht => rw [ht]; exact ⟨fun _ => rfl, id⟩
  | host i _ he => exact ⟨he.keepsCanonical.symRam, he.keepsCanonical.hostMem⟩
  | filler p rest _ _ he => exact ⟨he.keepsCanonical.symRam, he.keepsCanonical.hostMem⟩
  | transmitter p rest P _ _ _ ht => rw [ht]; exact keepsCanonical_of_eq rfl rfl

/-- Settles O49: by what the step did. -/
theorem stepKeepsMemoriesCanonical : Obligations.StepKeepsMemoriesCanonical := by
  unfold Obligations.StepKeepsMemoriesCanonical
  intro s t h hsym hhost
  have hkeep := step_keepsCanonical h
  exact ⟨hkeep.symRam hsym, hkeep.hostMem hhost⟩

end Sys2Proof.Machine
end

section
/-! PROOFS. The family 20_memory.md, third part: fillers and transmitters do not read host memory (R70;
42_encoder_engine.md R218, 70_reset_and_hazards.md R289). Another content of host memory commutes with
each operation they use. -/

namespace Sys2Proof.Machine

/-- The state with another content of host memory. -/
def State.withHostMem (m : HostMem) (s : State) : State := { s with hostMem := m }

/-- What `run` answers does not depend on host memory, and the next state keeps the one it found. -/
def IgnoresHostMem (run : State → Res) : Prop :=
  ∀ m s, run (s.withHostMem m) = mapNext (State.withHostMem m) (run s)

/-! ### The window and the end of an activation -/

theorem putSym_withHostMem (p : PortId) (w : Word) (m : HostMem) (s : State) :
    putSym p w (s.withHostMem m) = (putSym p w s).map (State.withHostMem m) := by
  unfold putSym
  by_cases h : (s.port p).fill.toNat = s.par.w
  · rw [if_pos h]; exact if_pos h
  · rw [if_neg h]; exact if_neg h

theorem putSyms_withHostMem (p : PortId) (ws : List Word) (m : HostMem) (s : State) :
    putSyms p ws (s.withHostMem m) = (putSyms p ws s).map (State.withHostMem m) := by
  induction ws generalizing s with
  | nil => rfl
  | cons w ws ih =>
    simp only [putSyms, putSym_withHostMem]
    cases putSym p w s with
    | ok u => exact ih u
    | error r => rfl

/-- A refill is window writes, of words taken from the staging area (R72). -/
theorem refillBytes_withHostMem {p : PortId} (n : Nat) (m : HostMem) {s : State} (hp : p.toNat < s.ports.length) :
    refillBytes p n (s.withHostMem m) = (refillBytes p n s).map (State.withHostMem m) := by
  rw [refillBytes_eq n hp, ← putSyms_withHostMem]
  exact refillBytes_eq n (s := s.withHostMem m) hp

theorem closeActivation_withHostMem (p : PortId) (f : Port → Port) (m : HostMem) (e : Except Fault State) :
    answer (closeActivation p f (e.map (State.withHostMem m))) =
      mapNext (State.withHostMem m) (answer (closeActivation p f e)) := by
  cases e <;> rfl

/-- An agent's execution ignores host memory if it does on a machine that has the port. -/
theorem ignoresHostMem_onAgent {p : PortId} {run : State → Res}
    (h : ∀ m s, p.toNat < s.ports.length → run (s.withHostMem m) = mapNext (State.withHostMem m) (run s)) :
    IgnoresHostMem fun s => onAgent s p (run s) := by
  intro m s
  by_cases hp : p.toNat < s.ports.length
  · simp only [onAgent_eq s p _ hp, ← h m s hp]
    exact onAgent_eq (s.withHostMem m) p _ hp
  · have hno : ¬ s.hasPort p = true := mt (hasPort_iff s p).1 hp
    simp only [onAgent, if_neg hno]
    exact if_neg hno

/-- An activation ignores host memory if its window writes do. -/
theorem ignoresHostMem_activation {p : PortId} (f : Port → Port) {writes : State → Except Fault State}
    (h : ∀ m s, p.toNat < s.ports.length →
      writes (s.withHostMem m) = (writes s).map (State.withHostMem m)) :
    IgnoresHostMem fun s => onAgent s p (answer (closeActivation p f (writes s))) :=
  ignoresHostMem_onAgent fun m s hp => by rw [h m s hp, closeActivation_withHostMem]

/-! ### The agents' instructions -/

theorem txStep_ignoresHostMem (p : PortId) (f : Port → Port) : IgnoresHostMem (txStep p f) :=
  ignoresHostMem_onAgent fun _ _ _ => rfl

theorem exec_symUnderrun_ignoresHostMem (p : PortId) : IgnoresHostMem (exec (.symUnderrun p)) :=
  ignoresHostMem_onAgent (run := fun s => .next (s.setPort p (underrun s.par (s.port p)))) fun _ _ _ => rfl

theorem exec_decodeSym_ignoresHostMem (p : PortId) (w : Word) : IgnoresHostMem (exec (decodeSym p w)) := by
  rcases decodeSym_cases p w with ⟨-, h⟩ | ⟨-, -, h⟩ | ⟨-, -, h⟩ <;> rw [h]
  · exact txStep_ignoresHostMem p stopTx
  · exact txStep_ignoresHostMem p fun P => stopTx (emit [.pulse (symLvl0 w) (symDur0 w)] P)
  · exact txStep_ignoresHostMem p (emit [.pulse (symLvl0 w) (symDur0 w), .pulse (symLvl1 w) (symDur1 w)])

theorem exec_fillerInstr_ignoresHostMem (p : PortId) (cause : Bool) (st : FrameState) (z : Bool) :
    IgnoresHostMem (exec (fillerInstr p cause st z)) := by
  unfold fillerInstr
  split
  · exact ignoresHostMem_activation startFrame (writes := fun s => putSyms p (resetWords (s.port p).cfg) s)
      fun m s _ => putSyms_withHostMem p _ m s
  · exact ignoresHostMem_activation id (writes := fun s => refillBytes p (refillCount s.par (s.port p)) s)
      fun m s hp => refillBytes_withHostMem _ m hp
  · exact ignoresHostMem_activation endFrame (writes := fun s => putSyms p (endingWords (s.port p).cfg) s)
      fun m s _ => putSyms_withHostMem p _ m s
  · exact ignoresHostMem_activation frameDone (writes := .ok) fun _ _ _ => rfl
  · exact fun _ _ => rfl

/-- Whatever an agent's turn fetches ignores host memory. -/
theorem exec_fetched_ignoresHostMem {s : State} {p : PortId} {rest : List Turn} {i : Instr}
    (ha : s.agenda = .filler p :: rest ∨ s.agenda = .transmitter p :: rest) (hi : fetch s = .instr i) :
    IgnoresHostMem (exec i) := by
  rcases fetch_instr hi with ⟨we, bytes, addr, data, tail, hq, -⟩ | ⟨q, e, tail, -, -, he, rfl⟩ |
    ⟨q, tail, -, -, -, -, ⟨-, rfl⟩ | ⟨-, rfl⟩⟩
  · rcases ha with ha | ha <;> cases hq.symm.trans ha
  · obtain ⟨-, rfl⟩ := activationEntry_some he
    rw [decodeEvent_eventVector]
    exact exec_fillerInstr_ignoresHostMem q _ _ _
  · exact exec_symUnderrun_ignoresHostMem q
  · exact exec_decodeSym_ignoresHostMem q _

/-! ### One step -/

/-- No agent presents anything of host memory. -/
theorem fetch_withHostMem (m : HostMem) (s : State) : fetch (s.withHostMem m) = fetch s := rfl

/-- On an agent's turn what is fetched is a step of that agent's, or none. -/
theorem fetch_of_agent {s : State} {p : PortId} {rest : List Turn}
    (ha : s.agenda = .filler p :: rest ∨ s.agenda = .transmitter p :: rest) : ∃ c, fetch s = fetchAgent c := by
  rcases ha with ha | ha
  · exact ⟨fillerCode s p, by simp only [fetch, ha]⟩
  · exact ⟨transmitterCode s p, by simp only [fetch, ha]⟩

/-- Settles O54: the same instruction is fetched, and what it does ignores host memory. -/
theorem framesIgnoreHostMemory : Obligations.FramesIgnoreHostMemory := by
  unfold Obligations.FramesIgnoreHostMemory
  intro s m p rest ha
  show step (s.withHostMem m) = mapNext (State.withHostMem m) (step s)
  obtain ⟨c, hc⟩ := fetch_of_agent ha
  rcases fetchAgent_cases c with hpass | ⟨i, hi⟩ | ⟨r, hr⟩
  · have hf := hc.trans hpass
    simp only [step, fetch_withHostMem, hf]
    rfl
  · have hf := hc.trans hi
    rw [step_of_fetch hf, step_of_fetch ((fetch_withHostMem m s).trans hf)]
    exact exec_fetched_ignoresHostMem ha hf m s.advance
  · have hf := hc.trans hr
    rw [step_of_reject hf, step_of_reject ((fetch_withHostMem m s).trans hf)]
    rfl

end Sys2Proof.Machine
end

section
/-! PROOFS. The family 30_encoding.md, first part: what the decoder and the encoder do, form by form, and that each undoes
the other (R89 to R108). -/

namespace Sys2Proof.Machine

/-! ### The fields of a command word (R90) -/

theorem cmdOp_toNat (w : Word) : (cmdOp w).toNat = w.toNat % 16 := by
  simp [cmdOp]

theorem cmdRsv0_toNat (w : Word) : (cmdRsv0 w).toNat = w.toNat / 2 ^ 4 % 16 := by
  simp [cmdRsv0, Nat.shiftRight_eq_div_pow]

theorem cmdPort_toNat (w : Word) : (cmdPort w).toNat = w.toNat / 2 ^ 8 % 16 := by
  simp [cmdPort, Nat.shiftRight_eq_div_pow]

theorem cmdRsv1_toNat (w : Word) : (cmdRsv1 w).toNat = w.toNat / 2 ^ 12 := by
  have hw := w.isLt
  rw [cmdRsv1, BitVec.extractLsb'_toNat, Nat.shiftRight_eq_div_pow]
  omega

theorem cmdWord_toNat (op : BitVec 4) (p : PortId) : (cmdWord op p).toNat = 2 ^ 8 * p.toNat + op.toNat := by
  simp only [cmdWord, toNat_append_eq, BitVec.toNat_ofNat]
  omega

theorem cmdOp_cmdWord (op : BitVec 4) (p : PortId) : cmdOp (cmdWord op p) = op := by
  apply BitVec.eq_of_toNat_eq
  rw [cmdOp_toNat, cmdWord_toNat]
  omega

theorem cmdPort_cmdWord (op : BitVec 4) (p : PortId) : cmdPort (cmdWord op p) = p := by
  apply BitVec.eq_of_toNat_eq
  rw [cmdPort_toNat, cmdWord_toNat]
  omega

/-- A word with its reserved bits 0 has no bits but OP and PORT. -/
theorem cmdWord_fields {w : Word} (h0 : w.toNat / 2 ^ 4 % 16 = 0) (h1 : w.toNat / 2 ^ 12 = 0) :
    cmdWord (cmdOp w) (cmdPort w) = w := by
  apply BitVec.eq_of_toNat_eq
  rw [cmdWord_toNat, cmdOp_toNat, cmdPort_toNat]
  omega

/-! ### The command a word asks for (R91, R92) -/

/-- Conditions (a) to (c) of R92, on the word's value. -/
theorem illegalForm_iff (w : Word) :
    illegalForm w = true ↔ 6 ≤ w.toNat % 16 ∨ w.toNat / 2 ^ 4 % 16 ≠ 0 ∨ w.toNat / 2 ^ 12 ≠ 0 ∨
      (w.toNat % 16 ≤ 2 ∧ w.toNat / 2 ^ 8 % 16 ≠ 0) := by
  rw [← cmdOp_toNat, ← cmdRsv0_toNat, ← cmdRsv1_toNat, ← cmdPort_toNat]
  simp [illegalForm, ← BitVec.toNat_inj, or_assoc]

/-- The second row of ILLEGAL_CMD is OP 0x8 to 0xF, which is illegal by condition (a). -/
theorem illegalForm_of_cmdOp_msb {w : Word} (h : (cmdOp w).msb = true) : illegalForm w = true := by
  rw [BitVec.msb_eq_decide, decide_eq_true_eq, cmdOp_toNat] at h
  exact (illegalForm_iff w).2 (.inl (by omega))

/-- The command an OP below 6 names, with the PORT of its word (R91). -/
def namedCommand (p : PortId) : Nat → Command
  | 0 => .nop
  | 1 => .begin
  | 2 => .apply
  | 3 => .arm p
  | 4 => .clrerr p
  | _ => .teardown p

theorem commandOf_of_legal {w : Word} (h : illegalForm w = false) :
    commandOf w = namedCommand (cmdPort w) (cmdOp w).toNat := by
  have hlegal : ¬ illegalForm w = true := by simp [h]
  exact if_neg hlegal

theorem commandOf_of_illegal {w : Word} (h : illegalForm w = true) :
    commandOf w = if (cmdOp w).msb then .illegalHigh w else .illegal w := if_pos h

/-- The word of a command: its OP and PORT, or the illegal word itself. -/
def wordOf : Command → Word
  | .nop => cmdWord 0 0
  | .begin => cmdWord 1 0
  | .apply => cmdWord 2 0
  | .arm p => cmdWord 3 p
  | .clrerr p => cmdWord 4 p
  | .teardown p => cmdWord 5 p
  | .illegal w => w
  | .illegalHigh w => w

theorem encode_commandInstr (c : Command) : encode (commandInstr c) = commandCode (wordOf c) := by
  cases c <;> rfl

/-- The word of the command an OP names is that OP with the PORT, which is 0 where the command has none (R91). -/
theorem wordOf_namedCommand {op : BitVec 4} {p : PortId} (hop : op.toNat < 6) (hp : op.toNat ≤ 2 → p = 0) :
    wordOf (namedCommand p op.toNat) = cmdWord op p := by
  have hcases : op = 0 ∨ op = 1 ∨ op = 2 ∨ op = 3 ∨ op = 4 ∨ op = 5 := by bv_omega
  rcases hcases with rfl | rfl | rfl | rfl | rfl | rfl
  · rw [hp (by decide)]; rfl
  · rw [hp (by decide)]; rfl
  · rw [hp (by decide)]; rfl
  · rfl
  · rfl
  · rfl

/-- A legal word's OP names a command, and it has a PORT only for a port command. -/
theorem fields_of_legal {w : Word} (h : illegalForm w = false) :
    cmdWord (cmdOp w) (cmdPort w) = w ∧ (cmdOp w).toNat < 6 ∧ ((cmdOp w).toNat ≤ 2 → cmdPort w = 0) := by
  have hlegal := mt (illegalForm_iff w).2 (Bool.eq_false_iff.1 h)
  refine ⟨cmdWord_fields (by omega) (by omega), by rw [cmdOp_toNat]; omega, fun hop => ?_⟩
  rw [cmdOp_toNat] at hop
  have hport : (cmdPort w).toNat = 0 := by rw [cmdPort_toNat]; omega
  exact BitVec.eq_of_toNat_eq hport

/-- No bit of a command word is dropped: a legal one is OP and PORT alone, an illegal one is kept whole. -/
theorem wordOf_commandOf (w : Word) : wordOf (commandOf w) = w := by
  cases h : illegalForm w with
  | true =>
    rw [commandOf_of_illegal h]
    split <;> rfl
  | false =>
    obtain ⟨hword, hop, hport⟩ := fields_of_legal h
    rw [commandOf_of_legal h, wordOf_namedCommand hop hport, hword]

theorem decode_commandCode_eq (w : Word) : decode (commandCode w) = .ok (commandInstr (commandOf w)) := rfl

/-- The word built for a legal OP and PORT is the command they name. -/
theorem decode_cmdWord {op : BitVec 4} {p : PortId} (hop : op.toNat < 6) (hp : op.toNat ≤ 2 → p = 0) :
    decode (commandCode (cmdWord op p)) = .ok (commandInstr (namedCommand p op.toNat)) := by
  have hlegal : illegalForm (cmdWord op p) = false := by
    rw [← Bool.not_eq_true, illegalForm_iff, ← cmdPort_toNat, cmdPort_cmdWord, cmdWord_toNat]
    have hport : op.toNat ≤ 2 → p.toNat = 0 := fun h => by rw [hp h]; rfl
    have hlt := p.isLt
    omega
  rw [decode_commandCode_eq, commandOf_of_legal hlegal, cmdOp_cmdWord, cmdPort_cmdWord]

theorem decode_illegal {w : Word} (h : illegalForm w = true) :
    decode (commandCode w) = .ok (if (cmdOp w).msb then .illegalCmdHigh w else .illegalCmd w) := by
  rw [decode_commandCode_eq, commandOf_of_illegal h]
  split <;> rfl

/-! ### The fields of a symbol word (R95) -/

theorem symLvl0_symWord (lvl1 : Bool) (dur1 : Dur) (lvl0 : Bool) (dur0 : Dur) :
    symLvl0 (symWord lvl1 dur1 lvl0 dur0) = lvl0 := by
  simp only [symLvl0, symWord, BitVec.getLsbD_append]
  simp

theorem symLvl1_symWord (lvl1 : Bool) (dur1 : Dur) (lvl0 : Bool) (dur0 : Dur) :
    symLvl1 (symWord lvl1 dur1 lvl0 dur0) = lvl1 := by
  simp only [symLvl1, symWord, BitVec.getLsbD_append]
  simp

/-- A symbol word is its four fields, and no bit besides. -/
theorem symWord_fields (w : Word) : symWord (symLvl1 w) (symDur1 w) (symLvl0 w) (symDur0 w) = w := by
  have hw := w.isLt
  apply BitVec.eq_of_toNat_eq
  rw [symWord_toNat]
  simp only [symLvl0, symLvl1, symDur0, symDur1, BitVec.extractLsb'_toNat, Nat.shiftRight_eq_div_pow,
    BitVec.getLsbD, Nat.toNat_testBit]
  omega

theorem decode_symWord (p : PortId) (lvl1 : Bool) (dur1 : Dur) (lvl0 : Bool) (dur0 : Dur) :
    decode (.sym p (symWord lvl1 dur1 lvl0 dur0)) = .ok
      (if dur0 = 0 then .symEnd p lvl1 dur1 lvl0
       else if dur1 = 0 then .symHalfEnd p lvl1 lvl0 dur0
       else .symEmit p lvl1 dur1 lvl0 dur0) := by
  simp only [decode, decodeSym, symDur0_symWord, symDur1_symWord, symLvl0_symWord, symLvl1_symWord]

theorem encode_decodeSym (p : PortId) (w : Word) : encode (decodeSym p w) = .sym p w := by
  have hfields := symWord_fields w
  rcases decodeSym_cases p w with ⟨h0, h⟩ | ⟨-, h1, h⟩ | ⟨-, -, h⟩ <;> rw [h, encode]
  · rw [h0] at hfields
    rw [hfields]
  · rw [h1] at hfields
    rw [hfields]
  · rw [hfields]

/-! ### The activation of an event vector (R100) -/

/-- An event vector is its three fields. -/
theorem eventVector_fields (e : BitVec 4) : eventVector (eventCause e) (eventState e) (eventZ e) = e := by
  revert e
  decide

/-- What an event vector selects, for every port: one of the four activations by its row's pattern, or none. -/
theorem decodeEvent_cases (e : BitVec 4) :
    (∃ z, e = eventVector false 1 z ∧ ∀ p, decodeEvent p e = .fillStart p z) ∨
    (e = eventVector false 2 false ∧ ∀ p, decodeEvent p e = .fillRefill p) ∨
    (e = eventVector false 2 true ∧ ∀ p, decodeEvent p e = .fillEnd p) ∨
    (∃ z, e = eventVector true 3 z ∧ ∀ p, decodeEvent p e = .fillDone p z) ∨
    (∀ p, decodeEvent p e = .spuriousCause p e) := by
  have hfields := eventVector_fields e
  unfold decodeEvent
  split
  · next h =>
    obtain ⟨hcause, hstate⟩ := h
    rw [hcause, hstate] at hfields
    exact .inl ⟨_, hfields.symm, fun _ => rfl⟩
  · split
    · next h =>
      obtain ⟨hcause, hstate⟩ := h
      rw [hcause, hstate] at hfields
      cases hz : eventZ e with
      | false => exact .inr (.inl ⟨by rw [← hfields, hz], fun _ => rfl⟩)
      | true => exact .inr (.inr (.inl ⟨by rw [← hfields, hz], fun _ => rfl⟩))
    · split
      · next h =>
        obtain ⟨hcause, hstate⟩ := h
        rw [hcause, hstate] at hfields
        exact .inr (.inr (.inr (.inl ⟨_, hfields.symm, fun _ => rfl⟩)))
      · exact .inr (.inr (.inr (.inr fun _ => rfl)))

theorem encode_decodeEvent (p : PortId) (e : BitVec 4) : encode (decodeEvent p e) = .event p e := by
  rcases decodeEvent_cases e with ⟨z, he, h⟩ | ⟨he, h⟩ | ⟨he, h⟩ | ⟨z, he, h⟩ | h <;> rw [h p, encode]
  all_goals rw [he]

theorem decodeEvent_of_not_selectsFill {e : BitVec 4} (p : PortId) (h : selectsFill e = false) :
    decodeEvent p e = .spuriousCause p e := by
  rcases decodeEvent_cases e with ⟨z, -, hd⟩ | ⟨-, hd⟩ | ⟨-, hd⟩ | ⟨z, -, hd⟩ | hd
  case inr.inr.inr.inr => exact hd p
  all_goals
    rw [selectsFill, hd] at h
    cases h

/-! ### The decoder and the encoder -/

/-- Settles O1: by the instruction, from the fields of the word built for it. -/
theorem decodeUndoesEncode : Obligations.DecodeUndoesEncode := by
  unfold Obligations.DecodeUndoesEncode
  intro i hwf
  cases i with
  | hostWr offset data =>
    obtain ⟨halign, hcmd⟩ := (Bool.and_eq_true _ _).mp hwf
    exact decode_bus_ok.2 ⟨rfl, halign, (if_neg (bne_iff_ne.1 hcmd)).symm⟩
  | hostRd offset => exact decode_bus_ok.2 ⟨rfl, hwf, rfl⟩
  | nop => exact decode_cmdWord (op := 0) (by decide) fun _ => rfl
  | begin => exact decode_cmdWord (op := 1) (by decide) fun _ => rfl
  | apply => exact decode_cmdWord (op := 2) (by decide) fun _ => rfl
  | arm p => exact decode_cmdWord (op := 3) (by decide) fun h => absurd h (by decide)
  | clrerr p => exact decode_cmdWord (op := 4) (by decide) fun h => absurd h (by decide)
  | teardown p => exact decode_cmdWord (op := 5) (by decide) fun h => absurd h (by decide)
  | illegalCmd w =>
    obtain ⟨hill, hrow⟩ := (Bool.and_eq_true _ _).mp hwf
    rw [Bool.not_eq_true'] at hrow
    rw [encode, decode_illegal hill, hrow]
    rfl
  | illegalCmdHigh w =>
    have hrow : (cmdOp w).msb = true := hwf
    rw [encode, decode_illegal (illegalForm_of_cmdOp_msb hrow), if_pos hrow]
  | symEnd p lvl1 dur1 lvl0 => rw [encode, decode_symWord, if_pos rfl]
  | symHalfEnd p lvl1 lvl0 dur0 => rw [encode, decode_symWord, if_neg (bne_iff_ne.1 hwf), if_pos rfl]
  | symEmit p lvl1 dur1 lvl0 dur0 =>
    obtain ⟨h0, h1⟩ := (Bool.and_eq_true _ _).mp hwf
    rw [encode, decode_symWord, if_neg (bne_iff_ne.1 h0), if_neg (bne_iff_ne.1 h1)]
  | symUnderrun p => rfl
  | fillStart p z => exact congrArg Except.ok (decodeEvent_eventVector p false .frameStart z)
  | fillRefill p => exact congrArg Except.ok (decodeEvent_eventVector p false .streaming false)
  | fillEnd p => exact congrArg Except.ok (decodeEvent_eventVector p false .streaming true)
  | fillDone p z => exact congrArg Except.ok (decodeEvent_eventVector p true .frameEnd z)
  | spuriousCause p e =>
    have hnone : selectsFill e = false := by simpa [Instr.wf] using hwf
    exact congrArg Except.ok (decodeEvent_of_not_selectsFill p hnone)

/-- Settles O3: by the encoded form, each decoder keeping every bit of its word. -/
theorem encodeUndoesDecode : Obligations.EncodeUndoesDecode := by
  unfold Obligations.EncodeUndoesDecode
  intro c i h
  cases c with
  | bus we bytes offset data =>
    obtain ⟨rfl, -, rfl⟩ := decode_bus_ok.1 h
    cases we with
    | false => exact .inr ⟨offset, data, rfl, rfl⟩
    | true =>
      left
      by_cases hcmd : offset = cmdOffset
      · subst hcmd
        show encode (commandInstr (commandOf data)) = commandCode data
        rw [encode_commandInstr, wordOf_commandOf]
      · have hwr : decodeBus true offset data = .hostWr offset data := if_neg hcmd
        rw [hwr, encode]
  | sym p w => cases h; exact .inl (encode_decodeSym p w)
  | event p e => cases h; exact .inl (encode_decodeEvent p e)
  | drained p => cases h; exact .inl rfl

/-- Settles O4: each word is closed, and evaluates. -/
theorem specWordsDecode : Obligations.SpecWordsDecode :=
  ⟨rfl, rfl, rfl, rfl, rfl, rfl, rfl, rfl, rfl, rfl, rfl, rfl, rfl⟩

end Sys2Proof.Machine
end

section
/-! PROOFS. The family 30_encoding.md, second part: what an agent's turn runs, from the fields its encoded form is made of
(R91, R92, R97, R100). -/

namespace Sys2Proof.Machine

/-! ### The filler (R100) -/

section
variable {s : State} {p : PortId} {rest : List Turn}

theorem step_of_spuriousCause {e : BitVec 4} (h : fetch s = .instr (.spuriousCause p e)) :
    step s = .fault .spuriousCause := step_of_fetch h

/-- With a cause pending a filler runs what its vector selects (42_encoder_engine.md R190). -/
theorem fetch_filler_pending (h : s.agenda = .filler p :: rest) (hp : p.toNat < s.ports.length)
    (hc : causePending s.par (s.port p) = true) :
    fetch s = .instr (fillerInstr p (txdonePending (s.port p)) (s.port p).state ((s.port p).remain == 0)) := by
  rw [fetch_filler h hp (if_pos hc), ← decodeEvent_eventVector]
  exact fetchCode_ok rfl

theorem fetch_filler_idle (h : s.agenda = .filler p :: rest) (hc : causePending s.par (s.port p) = false) :
    fetch s = .pass := by
  simp [fetch, h, fillerCode, activationEntry, hc, fetchAgent]

/-- A filler that finds no activation for its cause faults (42_encoder_engine.md R210). -/
theorem filler_spurious (h : s.agenda = .filler p :: rest) (hp : p.toNat < s.ports.length)
    (hc : causePending s.par (s.port p) = true) {e : BitVec 4}
    (he : fillerInstr p (txdonePending (s.port p)) (s.port p).state ((s.port p).remain == 0) = .spuriousCause p e) :
    (∃ e, fetch s = .instr (.spuriousCause p e)) ∧ step s = .fault .spuriousCause := by
  have hf := fetch_filler_pending h hp hc
  rw [he] at hf
  exact ⟨⟨e, hf⟩, step_of_spuriousCause hf⟩

end

/-- TXDONE selects FILL_DONE in FrameEnd alone. -/
theorem fillerInstr_txdone_spurious (p : PortId) {st : FrameState} (h : st ≠ .frameEnd) (z : Bool) :
    fillerInstr p true st z = .spuriousCause p (eventVector true (stateCode st) z) := by
  cases st with
  | frameEnd => exact absurd rfl h
  | _ => rfl

/-- LWM selects nothing in Idle and FrameEnd. -/
theorem fillerInstr_lwm_spurious (p : PortId) {st : FrameState} (h : st = .idle ∨ st = .frameEnd) (z : Bool) :
    fillerInstr p false st z = .spuriousCause p (eventVector false (stateCode st) z) := by
  rcases h with rfl | rfl <;> rfl

/-- Settles O7: TXDONE pending, else LWM pending, else neither. -/
theorem fillerDispatchFollowsTheVector : Obligations.FillerDispatchFollowsTheVector := by
  unfold Obligations.FillerDispatchFollowsTheVector
  intro s p rest h hp
  refine ⟨fun hdone => ?_, fun hdone hie hfill => ?_, fun hdone hlwm => ?_⟩
  · have htx : txdonePending (s.port p) = true := hdone
    have hc : causePending s.par (s.port p) = true := by rw [causePending, htx]; rfl
    have hf := fetch_filler_pending h hp hc
    rw [htx] at hf
    refine ⟨fun hst => ?_, fun hst => ?_⟩
    · rw [hst] at hf
      exact hf
    · exact filler_spurious h hp hc (htx ▸ fillerInstr_txdone_spurious p hst _)
  · have htx : txdonePending (s.port p) = false := hdone
    have hc : causePending s.par (s.port p) = true := by
      rw [causePending, (lwmPending_iff _ _).2 ⟨hie, hfill⟩, Bool.or_true]
    have hf := fetch_filler_pending h hp hc
    rw [htx] at hf
    refine ⟨fun hst => ?_, fun hst hz => ?_, fun hst hz => ?_, fun hst => ?_⟩
    · rw [hst] at hf
      exact hf
    · rw [hst, beq_false_of_ne hz] at hf
      exact hf
    · rw [hst, hz] at hf
      exact hf
    · exact filler_spurious h hp hc (htx ▸ fillerInstr_lwm_spurious p hst _)
  · have hnot : ¬ lwmPending s.par (s.port p) = true := by
      rw [lwmPending_iff]
      rintro ⟨hie, hfill⟩
      rcases hlwm with hoff | habove
      · simp [hoff] at hie
      · omega
    exact fetch_filler_idle h (Bool.or_eq_false_iff.2 ⟨hdone, Bool.eq_false_iff.2 hnot⟩)

/-! ### The transmitter (R97) -/

theorem fetch_transmitter_disabled {s : State} {p : PortId} {rest : List Turn} (h : s.agenda = .transmitter p :: rest)
    (hen : txEnabled (s.port p) = false) : fetch s = .pass := by
  simp [fetch, h, transmitterCode, hen, fetchAgent]

theorem symDur0_eq_zero_iff (w : Word) : symDur0 w = 0 ↔ w.toNat % 2 ^ 15 = 0 := by
  simp [symDur0, ← BitVec.toNat_inj]

theorem symDur1_eq_zero_iff (w : Word) : symDur1 w = 0 ↔ w.toNat / 2 ^ 16 % 2 ^ 15 = 0 := by
  simp [symDur1, ← BitVec.toNat_inj, Nat.shiftRight_eq_div_pow]

/-- The class of a word, by its two durations as numbers (R95, R97). -/
theorem decodeSym_eq (p : PortId) (w : Word) : decodeSym p w =
    if w.toNat % 2 ^ 15 = 0 then .symEnd p (w.getLsbD 31) (w.extractLsb' 16 15) (w.getLsbD 15)
    else if w.toNat / 2 ^ 16 % 2 ^ 15 = 0 then .symHalfEnd p (w.getLsbD 31) (w.getLsbD 15) (w.extractLsb' 0 15)
    else .symEmit p (w.getLsbD 31) (w.extractLsb' 16 15) (w.getLsbD 15) (w.extractLsb' 0 15) := by
  simp only [← symDur0_eq_zero_iff, ← symDur1_eq_zero_iff]
  rfl

/-- Settles O8: whether it is enabled, then the empty window, then the class of the word at RD. -/
theorem transmitterDispatchFollowsTheWord : Obligations.TransmitterDispatchFollowsTheWord := by
  unfold Obligations.TransmitterDispatchFollowsTheWord
  intro s p rest w h hp hadm
  refine ⟨fun hoff => ?_, fun hon hfill hstarved => ?_, fun hon hfill hstarved => ?_, fun hon hfill hw => ?_⟩
  · exact fetch_transmitter_disabled h (by simp [txEnabled, hoff])
  · exact fetch_transmitter_disabled h (by simp [txEnabled, hfill, hstarved])
  · have hen : txEnabled (s.port p) = true := by simp [txEnabled, hon, hstarved]
    rw [fetch_transmitter h hp hen hadm, if_pos hfill]
    exact fetchCode_ok rfl
  · have hen : txEnabled (s.port p) = true := by
      rw [txEnabled, hon, bne_iff_ne.2 hfill]; rfl
    rw [fetch_transmitter h hp hen hadm, if_neg hfill, symRead_of_cellRead hw, ← decodeSym_eq]
    exact fetchCode_ok rfl

/-! ### The host's commands (R91, R92) -/

/-- A command is executed as its instruction is (40_driver_interface.md R121). -/
theorem executeCommand_eq (w : Word) (s : State) : executeCommand w s = exec (commandInstr (commandOf w)) s := by
  unfold executeCommand
  cases commandOf w <;> rfl

theorem exec_hostWr_cmd (w : Word) (s : State) :
    exec (.hostWr 0x018#32 w) s = exec (commandInstr (commandOf w)) s :=
  (exec_hostWr_global s w (o := 0x018) (by omega) (by omega)).trans (executeCommand_eq w s)

theorem exec_illegal_command {w : Word} (h : illegalForm w = true) (s : State) :
    exec (commandInstr (commandOf w)) s = .next (s.report .illegal (cmdPort w)) := by
  rw [commandOf_of_illegal h]
  split <;> rfl

theorem portCommand_beyond {s : State} {p : PortId} (r : Res) (h : s.ports.length ≤ p.toNat) :
    portCommand p s r = .next (s.report .illegal p) := by
  rcases portCommand_cases p s r with ⟨hp, -⟩ | ⟨-, hr⟩
  · omega
  · exact hr

/-- Condition (d) of R92: the three port commands answer ILLEGAL beyond PORT_LIMIT. -/
theorem exec_namedCommand_beyond {s : State} {p : PortId} {op : Nat} (hop : 3 ≤ op) (h : s.ports.length ≤ p.toNat) :
    exec (commandInstr (namedCommand p op)) s = .next (s.report .illegal p) := by
  unfold namedCommand
  split
  · omega
  · omega
  · omega
  all_goals exact portCommand_beyond _ h

/-- Settles O20: the word is illegal by its form, or names a port there is not, or is the command its OP names. -/
theorem commandWriteRunsTheCommand : Obligations.CommandWriteRunsTheCommand := by
  unfold Obligations.CommandWriteRunsTheCommand
  rintro s w op rsv0 port rsv1 hop hrsv0 hport hrsv1
  have hp : cmdPort w = BitVec.ofNat 4 port :=
    BitVec.eq_of_toNat_eq (by rw [cmdPort_toNat, BitVec.toNat_ofNat]; omega)
  have hform := illegalForm_iff w
  rw [← hop, ← hrsv0, ← hport, ← hrsv1] at hform
  have hlegal (h : illegalForm w = false) :
      exec (.hostWr 0x018#32 w) s = exec (commandInstr (namedCommand (BitVec.ofNat 4 port) op)) s := by
    rw [exec_hostWr_cmd, commandOf_of_legal h, cmdOp_toNat, ← hop, hp]
  refine ⟨fun hcond => ?_, fun h0 h1 => ?_⟩
  · show _ = Host.Outcome.next (s.report .illegal (BitVec.ofNat 4 port))
    cases h : illegalForm w with
    | true => rw [exec_hostWr_cmd, exec_illegal_command h, hp]
    | false =>
      have hnot := mt hform.2 (Bool.eq_false_iff.1 h)
      have hbeyond : s.ports.length ≤ (BitVec.ofNat 4 port).toNat := by rw [← hp, cmdPort_toNat]; omega
      rw [hlegal h, exec_namedCommand_beyond (by omega) hbeyond]
  · have hnamed (h : op < 6 ∧ (op ≤ 2 → port = 0)) :=
      hlegal (Bool.eq_false_iff.2 fun hill => by have := hform.1 hill; omega)
    refine ⟨?_, ?_, ?_, ?_, ?_, ?_⟩
    · rintro rfl hz; exact hnamed ⟨by omega, fun _ => hz⟩
    · rintro rfl hz; exact hnamed ⟨by omega, fun _ => hz⟩
    · rintro rfl hz; exact hnamed ⟨by omega, fun _ => hz⟩
    all_goals
      rintro rfl -
      exact hnamed ⟨by omega, fun hle => absurd hle (by omega)⟩

end Sys2Proof.Machine
end

section
/-! PROOFS. The family 40_driver_interface.md, first part: Validate, field by field (R132, R133), when it changes
nothing, and that it accepts what it has corrected (R134). -/

namespace Sys2Proof.Machine

/-! ### One field -/

theorem cap_toNat {w : Nat} (bound : Nat) (v : BitVec w) : (cap bound v).toNat = min v.toNat bound := by
  have hv := v.isLt
  unfold cap
  split
  · rw [BitVec.toNat_ofNat, Nat.mod_eq_of_lt (by omega)]
    omega
  · omega

theorem cap_of_le {w bound : Nat} {v : BitVec w} (h : v.toNat ≤ bound) : cap bound v = v := if_neg (by omega)

theorem orDefault_of_ne_zero {d : Dur} (dflt : Dur) (h : d ≠ 0) : orDefault d dflt = d := if_neg h

theorem clampCount_of_countBad_eq_false {limit : Nat} {n : BitVec 8} (h : countBad limit n = false) :
    clampCount limit n = n := by
  simp [clampCount, h]

theorem countBad_eq_false (limit : Nat) (n : BitVec 8) :
    countBad limit n = false ↔ 1 ≤ n.toNat ∧ n.toNat ≤ limit := by
  simp only [countBad, Bool.or_eq_false_iff, decide_eq_false_iff_not]
  omega

theorem clampCount_toNat {limit : Nat} (h : limit < 2 ^ 8) (n : BitVec 8) :
    (clampCount limit n).toNat = if 1 ≤ n.toNat ∧ n.toNat ≤ limit then n.toNat else limit := by
  simp only [← countBad_eq_false]
  unfold clampCount
  cases countBad limit n with
  | true => simpa using h
  | false => simp

/-- EN after Validate: cleared at or beyond the count and for the sentinel (40_driver_interface.md R132). -/
theorem fixPort_en (par : Config.Params) (n : BitVec 8) (idx : Nat) (c : PortConfig) :
    (fixPort par n idx c).en = (c.en && decide (idx < n.toNat) && decide (c.gpioId ≠ 0xFF#8)) := by
  by_cases hidx : idx < n.toNat
  · by_cases hgpio : c.gpioId = 0xFF#8 <;> simp [fixPort, enBad, Config.gpioSentinel, hidx, hgpio]
  · cases hen : c.en <;> simp [fixPort, enBad, hen, hidx, Nat.not_lt.1 hidx]

/-! ### What is accepted is kept -/

theorem fixPort_of_portBad_eq_false {par : Config.Params} {n : BitVec 8} {idx : Nat} {c : PortConfig}
    (h : portBad par n idx c = false) : fixPort par n idx c = c := by
  obtain ⟨hen, h0h, h0l, h1h, h1l, hreset, hlatch, hresetCount, hlatchCount, hk⟩ := (portBad_eq_false ..).1 h
  simp only [fixPort, hen, orDefault_of_ne_zero _ h0h, orDefault_of_ne_zero _ h0l, orDefault_of_ne_zero _ h1h,
    orDefault_of_ne_zero _ h1l, orDefault_of_ne_zero _ hreset, orDefault_of_ne_zero _ hlatch, cap_of_le hresetCount,
    cap_of_le hlatchCount, cap_of_le hk, Bool.not_false, Bool.and_true]

theorem fixPorts_of_portsBad_eq_false {par : Config.Params} {n : BitVec 8} {idx : Nat} {cs : List PortConfig}
    (h : portsBad par n idx cs = false) : fixPorts par n idx cs = cs := by
  induction cs generalizing idx with
  | nil => rfl
  | cons c cs ih =>
    obtain ⟨hc, hcs⟩ := Bool.or_eq_false_iff.1 h
    rw [fixPorts, fixPort_of_portBad_eq_false hc, ih hcs]

/-- Validate answers ok exactly when the count and every port need no correction (40_driver_interface.md R132, R133). -/
theorem validate_accepts_iff (par : Config.Params) (cfg : FullConfig) :
    (validate par cfg).2 = true ↔ countBad cfg.ports.length cfg.n = false ∧
      ∀ i c, cfg.ports[i]? = some c → portBad par cfg.n i c = false := by
  simp only [validate, Bool.not_eq_true', Bool.or_eq_false_iff, portsBad_eq_false, Nat.zero_add]
  refine and_congr_right fun h => ?_
  rw [clampCount_of_countBad_eq_false h]

/-- Validate keeps what it accepts. -/
theorem validate_of_accepts {par : Config.Params} {cfg : FullConfig} (h : (validate par cfg).2 = true) :
    validate par cfg = (cfg, true) := by
  obtain ⟨hcount, hports⟩ := (validate_accepts_iff par cfg).1 h
  have hbad : portsBad par cfg.n 0 cfg.ports = false := by simpa only [portsBad_eq_false, Nat.zero_add] using hports
  have hn := clampCount_of_countBad_eq_false hcount
  refine Prod.ext ?_ h
  simp only [validate, hn, fixPorts_of_portsBad_eq_false hbad]

/-- Validate accepts what it has corrected (40_driver_interface.md R134). -/
theorem validate_accepts_validate {par : Config.Params} {cfg : FullConfig} (hpar : par.defaultsOk)
    (h1 : 1 ≤ cfg.ports.length) (h16 : cfg.ports.length ≤ 16) : (validate par (validate par cfg).1).2 = true := by
  refine (validate_accepts_iff ..).2 ⟨?_, fun i c hc => portBad_validate hpar cfg hc⟩
  rw [validate_ports_length]
  exact countBad_clampCount h1 h16 cfg.n

/-- Settles O26: the corrected configuration is accepted, and what is accepted is kept. -/
theorem validateIsIdempotent : Obligations.ValidateIsIdempotent := by
  unfold Obligations.ValidateIsIdempotent
  exact fun par cfg hpar h1 h16 => validate_of_accepts (validate_accepts_validate hpar.2 h1 h16)

/-- The flag says whether anything was changed: a configuration Validate answers as it stands is one it accepts, since it
accepts all it answers (40_driver_interface.md R134). -/
theorem validate_accepts_iff_eq {par : Config.Params} {cfg : FullConfig} (hpar : par.defaultsOk)
    (h1 : 1 ≤ cfg.ports.length) (h16 : cfg.ports.length ≤ 16) :
    (validate par cfg).2 = true ↔ (validate par cfg).1 = cfg := by
  constructor
  · intro h
    rw [validate_of_accepts h]
  · intro h
    have haccepts := validate_accepts_validate hpar h1 h16
    rwa [h] at haccepts

/-- Settles O25: the count's clamp, each port's correction by its own index, and the flag. -/
theorem validateCorrectsByTheRules : Obligations.ValidateCorrectsByTheRules := by
  unfold Obligations.ValidateCorrectsByTheRules
  intro par cfg out ok hpar h1 h16 h
  obtain ⟨rfl, rfl⟩ := Prod.ext_iff.1 h
  refine ⟨clampCount_toNat (by omega) cfg.n, rfl, validate_ports_length par cfg,
    validate_accepts_iff_eq hpar.2 h1 h16, fun i c hc => ?_⟩
  refine ⟨fixPort par (validate par cfg).1.n i c, ?_, fixPort_en .., rfl, rfl, rfl, rfl, rfl, rfl, rfl, rfl, rfl, rfl,
    cap_toNat .., cap_toNat .., cap_toNat ..⟩
  simp [validate, fixPorts_getElem?, hc]

end Sys2Proof.Machine
end

section
/-! PROOFS. The family 40_driver_interface.md, second part: the commands' answers (R123 to R146). -/

namespace Sys2Proof.Machine

/-! ### Commands that write RESULT or one port -/

/-- Settles O21: NOP's answer is its report. -/
theorem nopWritesResultOnly : Obligations.NopWritesResultOnly := by
  unfold Obligations.NopWritesResultOnly
  exact fun _ => rfl

theorem cmdPort_eq_ofNat (w : Word) : cmdPort w = BitVec.ofNat 4 (w.toNat / 2 ^ 8) := by
  rw [← Nat.shiftRight_eq_div_pow]; rfl

/-- Settles O22: both rows report the PORT their word carries. -/
theorem illegalCommandWritesResultOnly : Obligations.IllegalCommandWritesResultOnly := by
  unfold Obligations.IllegalCommandWritesResultOnly
  intro s w
  rw [← cmdPort_eq_ofNat]
  exact ⟨rfl, rfl⟩

theorem portCommand_of_lt {s : State} {p : PortId} (r : Res) (h : p.toNat < s.ports.length) :
    portCommand p s r = r := by
  rcases portCommand_cases p s r with ⟨-, hr⟩ | ⟨hp, -⟩
  · exact hr
  · omega

/-- Settles O29: on both sides of PORT_LIMIT. -/
theorem clrerrClearsStickyBits : Obligations.ClrerrClearsStickyBits := by
  unfold Obligations.ClrerrClearsStickyBits
  exact fun s p => ⟨fun hp => portCommand_of_lt _ hp, fun hp => portCommand_beyond _ hp⟩

/-- Settles O30: by the tests of R145 in their order. -/
theorem teardownReleasesOrDefers : Obligations.TeardownReleasesOrDefers := by
  unfold Obligations.TeardownReleasesOrDefers
  refine ⟨fun s p hp => portCommand_beyond _ hp, ?_⟩
  rintro s p P hp rfl
  show (_ → execTeardown p s = _) ∧ (_ → _ → execTeardown p s = _) ∧ (_ → _ → execTeardown p s = _)
  rcases execTeardown_cases p s with ⟨hbeyond, -⟩ | ⟨-, ⟨hb, h⟩ | ⟨hb, hbusy, h⟩ | ⟨hb, hidle, h⟩⟩
  · omega
  · exact ⟨fun _ => h, fun htrue => absurd htrue (Bool.eq_false_iff.1 hb),
      fun htrue => absurd htrue (Bool.eq_false_iff.1 hb)⟩
  · exact ⟨fun hfalse => absurd hb (Bool.eq_false_iff.1 hfalse), fun _ _ => h, fun _ hidle => absurd hidle hbusy⟩
  · exact ⟨fun hfalse => absurd hb (Bool.eq_false_iff.1 hfalse), fun _ hbusy => absurd hidle hbusy, fun _ _ => h⟩

/-! ### A validated configuration in force -/

/-- The pad is an output for an enabled port with a GPIO (40_driver_interface.md R136). -/
theorem padRule_eq (c : PortConfig) : padRule c = (c.en && decide (c.gpioId ≠ 0xFF#8)) := by
  by_cases h : c.gpioId = 0xFF#8 <;> simp [padRule, Config.gpioSentinel, h]

theorem install_eq (c : PortConfig) (P : Port) :
    install c P = { P with
      cfg := c, sh := c, table := buildTable c, padOut := (c.en && decide (c.gpioId ≠ 0xFF#8)), present := false } := by
  rw [install, padRule_eq]

theorem not_omitted (s : State) : (!omitted s) = s.ports.any Port.present := by
  simp [omitted, List.not_all_eq_any_not]

theorem someBusy_iff (s : State) : someBusy s = true ↔ ∃ P ∈ s.ports, P.state ≠ .idle := by
  simp [someBusy]

theorem someBusy_eq_false_iff (s : State) : someBusy s = false ↔ ∀ P ∈ s.ports, P.state = .idle := by
  simp [someBusy]

theorem execBegin_of_begun {s : State} (hb : s.begun = true) : execBegin s = .next (s.report .ok 0) := by
  simpa [hb] using execBegin_cases s

theorem execBegin_of_not_begun {s : State} (hb : s.begun = false) :
    execBegin s = .next ((beginSetup s).report .ok 0) := by
  simpa [hb] using execBegin_cases s

theorem execApply_of_not_begun {s : State} (hb : s.begun = false) : execApply s = .next (s.report .notBegun 0) := by
  simpa [hb] using execApply_cases s

theorem execApply_of_busy {s : State} (hb : s.begun = true) (h : someBusy s = true) :
    execApply s = .next (s.report .busy 0) := by
  simpa [hb, h] using execApply_cases s

theorem execApply_of_idle {s : State} (hb : s.begun = true) (h : someBusy s = false) :
    execApply s = .next ((applyConfig s).report .ok 0) := by
  simpa [hb, h] using execApply_cases s

/-- Settles O23: the setup's global fields, and its ports one by one. -/
theorem beginSetsUpOnce : Obligations.BeginSetsUpOnce := by
  unfold Obligations.BeginSetsUpOnce
  refine fun s => ⟨execBegin_of_begun, fun hb => ⟨_, execBegin_of_not_begun hb, fun cfg ok h => ?_⟩⟩
  obtain ⟨rfl, rfl⟩ := Prod.ext_iff.1 h
  refine ⟨rfl, beginSetup_ports_length s, fun p hp => ?_⟩
  obtain ⟨c, hc, hport⟩ := beginSetup_port s hp
  refine ⟨c, hc, ?_⟩
  rw [report_port, hport, install_eq]

/-- Settles O24: R129's tests, then the merged configuration's global fields and its ports one by one. -/
theorem applyPutsTheMergeInForce : Obligations.ApplyPutsTheMergeInForce := by
  unfold Obligations.ApplyPutsTheMergeInForce
  refine fun s => ⟨execApply_of_not_begun, fun hb hbusy => execApply_of_busy hb ((someBusy_iff s).2 hbusy),
    fun hb hidle => ⟨_, execApply_of_idle hb ((someBusy_eq_false_iff s).2 hidle), fun cfg ok h => ?_⟩⟩
  obtain ⟨rfl, rfl⟩ := Prod.ext_iff.1 h
  refine ⟨?_, applyConfig_ports_length s, fun p hp => ?_⟩
  · rw [← not_omitted]
    rfl
  · obtain ⟨c, hc, hport⟩ := applyConfig_port s hp
    refine ⟨c, hc, ?_⟩
    rw [report_port, hport, install_eq]

end Sys2Proof.Machine
end

section
/-! PROOFS. The family 40_driver_interface.md, third part: the configuration registers of one machine written to another
and applied (R150). -/

namespace Sys2Proof.Machine

/-! ### Instructions one after another -/

theorem execAll_cons {i : Instr} {s t : State} (is : List Instr) (h : exec i s = .next t) :
    execAll (i :: is) s = execAll is t := by
  rw [execAll, h]

theorem execAll_append {is : List Instr} {s t : State} (js : List Instr) (h : execAll is s = .next t) :
    execAll (is ++ js) s = execAll js t := by
  induction is generalizing s with
  | nil => cases h; rfl
  | cons i is ih =>
    rw [execAll] at h
    cases hi : exec i s with
    | next u =>
      rw [hi] at h
      rw [List.cons_append, execAll_cons _ hi, ih h]
    | fault r => rw [hi] at h; cases h
    | refused r => rw [hi] at h; cases h

/-! ### One register -/

/-- The write of what register `o` of machine `a` reads. -/
def copyWrite (a : State) (o : Nat) : Instr := .hostWr (BitVec.ofNat 32 o) (hostRead a o)

/-- A configuration register's word number in its bank (10_state.md R52). -/
def CfgReg.wordNumber : CfgReg → Nat
  | .pctrl => 0
  | .pgpio => 1
  | .pt0 => 2
  | .pt1 => 3
  | .prst => 4
  | .plat => 5
  | .pnslots => 6
  | .psrc => 7

theorem CfgReg.wordNumber_lt (r : CfgReg) : r.wordNumber < 16 := by cases r <;> decide

theorem bankReg_wordNumber (p : PortId) (r : CfgReg) : bankReg p r.wordNumber = .cfg p r := by cases r <;> rfl

/-- The fields of one register, taken from `c` (10_state.md R52). -/
def takeFields (d c : PortConfig) : CfgReg → PortConfig
  | .pctrl => { d with en := c.en, inv := c.inv, doneIe := c.doneIe }
  | .pgpio => { d with gpioId := c.gpioId }
  | .pt0 => { d with t0h := c.t0h, t0l := c.t0l }
  | .pt1 => { d with t1h := c.t1h, t1l := c.t1l }
  | .prst => { d with resetDur := c.resetDur, resetCount := c.resetCount }
  | .plat => { d with latchDur := c.latchDur, latchCount := c.latchCount }
  | .pnslots => { d with k := c.k }
  | .psrc => { d with src := c.src }


/-- The two fields of a word: one in the low half without its top bit, the other at bit 16. -/
theorem extractLsb'_halves {w : Nat} {data : Word} {low : Dur} {high : BitVec w}
    (h : data.toNat = low.toNat + 2 ^ 16 * high.toNat) : data.extractLsb' 0 15 = low ∧ data.extractLsb' 16 w = high := by
  have hlow := low.isLt
  refine ⟨BitVec.eq_of_toNat_eq ?_, BitVec.eq_of_toNat_eq ?_⟩
  · rw [extractLsb'_zero_eq, BitVec.toNat_ofNat, h]
    omega
  · rw [extractLsb'_half_eq, BitVec.toNat_ofNat, h, Nat.add_mul_div_left _ _ (by decide), Nat.div_eq_of_lt (by omega),
      Nat.zero_add, Nat.mod_eq_of_lt high.isLt]

/-- A field alone in a word. -/
theorem extractLsb'_only {w : Nat} {data : Word} {x : BitVec w} (h : data.toNat = x.toNat) :
    data.extractLsb' 0 w = x := by
  rw [extractLsb'_zero_eq, h, BitVec.ofNat_toNat, BitVec.setWidth_eq]

/-- A write of a register's word sets the register's fields to those the word was read from (40_driver_interface.md R120,
10_state.md R52). -/
theorem cfgWrite_cfgWord (d c : PortConfig) (r : CfgReg) : cfgWrite d r (cfgWord c r) = takeFields d c r := by
  cases r with
  | pctrl =>
    simp only [cfgWrite, cfgWord, takeFields, BitVec.getLsbD_append]
    simp
  | pgpio => rw [cfgWrite, extractLsb'_only (cfgWord_toNat c .pgpio), takeFields]
  | pt0 =>
    obtain ⟨hlow, hhigh⟩ := extractLsb'_halves (cfgWord_toNat c .pt0)
    rw [cfgWrite, hlow, hhigh, takeFields]
  | pt1 =>
    obtain ⟨hlow, hhigh⟩ := extractLsb'_halves (cfgWord_toNat c .pt1)
    rw [cfgWrite, hlow, hhigh, takeFields]
  | prst =>
    obtain ⟨hlow, hhigh⟩ := extractLsb'_halves (cfgWord_toNat c .prst)
    rw [cfgWrite, hlow, hhigh, takeFields]
  | plat =>
    obtain ⟨hlow, hhigh⟩ := extractLsb'_halves (cfgWord_toNat c .plat)
    rw [cfgWrite, hlow, hhigh, takeFields]
  | pnslots => rw [cfgWrite, extractLsb'_only (cfgWord_toNat c .pnslots), takeFields]
  | psrc => rfl

/-! ### One port -/

/-- A bank's configuration registers in the order of their offsets (10_state.md R52). -/
def bankRegs : List CfgReg := [.pctrl, .pgpio, .pt0, .pt1, .prst, .plat, .pnslots, .psrc]

/-- The port with the whole shadow configuration `c` written. -/
def withShadow (c : PortConfig) (P : Port) : Port := { P with sh := c, present := true }

/-- The eight registers' fields are the whole configuration. -/
theorem foldl_shadowWrite_bankRegs (c : PortConfig) (P : Port) :
    bankRegs.foldl (fun P r => shadowWrite r (cfgWord c r) P) P = withShadow c P := by
  simp only [bankRegs, List.foldl_cons, List.foldl_nil, shadowWrite, cfgWrite_cfgWord, takeFields, withShadow]

/-- Registers of port p read from `a` and written to `s`, one after another. -/
theorem execAll_copy_regs {a s : State} {p : PortId} (ha : p.toNat < a.ports.length) (hs : p.toNat < s.ports.length)
    (rs : List CfgReg) :
    execAll (rs.map fun r => copyWrite a (0x100 + 0x40 * p.toNat + 4 * r.wordNumber)) s =
      .next (s.setPort p (rs.foldl (fun P r => shadowWrite r (cfgWord (a.port p).cfg r) P) (s.port p))) := by
  induction rs generalizing s with
  | nil => rw [List.foldl_nil, setPort_port_self s p hs]; rfl
  | cons r rs ih =>
    have hread : hostRead a (0x100 + 0x40 * p.toNat + 4 * r.wordNumber) = cfgWord (a.port p).cfg r := by
      rw [hostRead_bank ha r.wordNumber r.wordNumber_lt rfl, bankReg_wordNumber]
      rfl
    have hwrite := exec_hostWr_cfg hs (cfgWord (a.port p).cfg r) r.wordNumber_lt rfl (bankReg_wordNumber p r)
    rw [List.map_cons, copyWrite, hread, execAll_cons _ hwrite, ih (by simpa using hs), port_setPort_same s p _ hs,
      setPort_setPort, List.foldl_cons]

/-- A port's eight configuration registers read from `a` and written to `s`. -/
theorem execAll_copy_bank {a s : State} {p : PortId} (ha : p.toNat < a.ports.length) (hs : p.toNat < s.ports.length) :
    execAll (((List.range 8).map fun r => 0x100 + 0x40 * p.toNat + 4 * r).map (copyWrite a)) s =
      .next (s.setPort p (withShadow (a.port p).cfg (s.port p))) := by
  rw [← foldl_shadowWrite_bankRegs]
  exact execAll_copy_regs ha hs bankRegs

/-! ### Every port -/

/-- `t` is `s` with the first `k` ports' shadow copied from the effective configuration of `a` and their PRESENT set, as
far as APPLY reads a state (40_driver_interface.md R129). -/
structure CopiedPorts (a s : State) (k : Nat) (t : State) : Prop where
  par : t.par = s.par
  begun : t.begun = s.begun
  nSh : t.nSh = s.nSh
  uiSh : t.uiSh = s.uiSh
  length : t.ports.length = s.ports.length
  port : ∀ p : PortId, p.toNat < s.ports.length →
    t.port p = if p.toNat < k then withShadow (a.port p).cfg (s.port p) else s.port p

/-- One port more. -/
theorem CopiedPorts.succ {a s t : State} {p : PortId} (h : CopiedPorts a s p.toNat t) (hp : p.toNat < s.ports.length) :
    CopiedPorts a s (p.toNat + 1) (t.setPort p (withShadow (a.port p).cfg (t.port p))) where
  par := h.par
  begun := h.begun
  nSh := h.nSh
  uiSh := h.uiSh
  length := by rw [setPort_ports_length, h.length]
  port := fun q hq => by
    rw [port_setPort t p q _ (by rw [h.length]; exact hp)]
    by_cases hqp : q = p
    · subst hqp
      rw [if_pos rfl, if_pos (Nat.lt_succ_self _), h.port q hq, if_neg (Nat.lt_irrefl _)]
    · have hne : q.toNat ≠ p.toNat := fun e => hqp (BitVec.eq_of_toNat_eq e)
      rw [if_neg hqp, h.port q hq]
      simp only [show q.toNat < p.toNat + 1 ↔ q.toNat < p.toNat by omega]

/-- The offsets of the configuration registers of the first `k` ports (40_driver_interface.md R150). -/
def bankOffsets (k : Nat) : List Nat :=
  (List.range k).flatMap fun p => (List.range 8).map fun r => 0x100 + 0x40 * p + 4 * r

theorem configOffsets_eq (limit : Nat) : configOffsets limit = 0x010 :: 0x014 :: bankOffsets limit := rfl

theorem bankOffsets_succ (k : Nat) :
    bankOffsets (k + 1) = bankOffsets k ++ (List.range 8).map fun r => 0x100 + 0x40 * k + 4 * r := by
  simp only [bankOffsets, List.range_succ, List.flatMap_append, List.flatMap_singleton]

theorem exists_portId {i : Nat} (h : i < 16) : ∃ p : PortId, p.toNat = i :=
  ⟨BitVec.ofNat 4 i, by rw [BitVec.toNat_ofNat, Nat.mod_eq_of_lt (by omega)]⟩

/-- The banks of the first `k` ports read from `a` and written to `s`. -/
theorem execAll_copy_banks {a s : State} (hlen : s.ports.length = a.ports.length) (h16 : a.ports.length ≤ 16) (k : Nat)
    (hk : k ≤ a.ports.length) : ∃ t, execAll ((bankOffsets k).map (copyWrite a)) s = .next t ∧ CopiedPorts a s k t := by
  induction k with
  | zero => exact ⟨s, rfl, rfl, rfl, rfl, rfl, rfl, fun p _ => (if_neg (Nat.not_lt_zero _)).symm⟩
  | succ k ih =>
    obtain ⟨t, ht, hcopied⟩ := ih (by omega)
    obtain ⟨p, rfl⟩ := exists_portId (show k < 16 by omega)
    refine ⟨_, ?_, hcopied.succ (by omega)⟩
    rw [bankOffsets_succ, List.map_append, execAll_append _ ht,
      execAll_copy_bank (by omega) (by rw [hcopied.length]; omega)]

theorem hostRead_count (s : State) : hostRead s 0x010 = 0#24 ++ s.n := hostRead_global s (by omega)

/-- Every configuration register read from `a` and written to `s`. -/
theorem execAll_copy_config {a s : State} (hlen : s.ports.length = a.ports.length) (h16 : a.ports.length ≤ 16) :
    ∃ t, execAll ((configOffsets a.ports.length).map (copyWrite a)) s = .next t ∧
      CopiedPorts a { s with nSh := a.n, uiSh := a.ui } a.ports.length t := by
  have hn : BitVec.extractLsb' 0 8 (hostRead a 0x010) = a.n :=
    extractLsb'_only (by rw [hostRead_count, toNat_append_eq]; simp)
  have hcount : exec (copyWrite a 0x010) s = .next { s with nSh := a.n } := by
    rw [copyWrite, exec_hostWr_global s _ (by omega) (by omega), ← hn]
    rfl
  have hinterval : exec (copyWrite a 0x014) { s with nSh := a.n } = .next { s with nSh := a.n, uiSh := a.ui } := by
    rw [copyWrite, exec_hostWr_global _ _ (by omega) (by omega), hostRead_global a (by omega)]
    rfl
  obtain ⟨t, ht, hcopied⟩ :=
    execAll_copy_banks (s := { s with nSh := a.n, uiSh := a.ui }) hlen h16 a.ports.length le_rfl
  refine ⟨t, ?_, hcopied⟩
  rw [configOffsets_eq, List.map_cons, List.map_cons, execAll_cons _ hcount, execAll_cons _ hinterval, ht]

/-! ### The copy applied -/

theorem getElem_ports (s : State) (p : PortId) (h : p.toNat < s.ports.length) : s.ports[p.toNat] = s.port p := by
  rw [State.port, List.getElem?_eq_getElem h, Option.getD_some]

/-- Two machines of at most 16 ports whose ports agree under `f` and `g`. -/
theorem map_ports_eq_map_ports {α : Type} {s t : State} {f g : Port → α} (hlen : s.ports.length = t.ports.length)
    (h16 : t.ports.length ≤ 16) (h : ∀ p : PortId, p.toNat < t.ports.length → f (s.port p) = g (t.port p)) :
    s.ports.map f = t.ports.map g := by
  refine List.ext_getElem (by simpa using hlen) fun i hi _ => ?_
  rw [List.length_map] at hi
  obtain ⟨p, rfl⟩ := exists_portId (show i < 16 by omega)
  rw [List.getElem_map, List.getElem_map, getElem_ports s p hi, getElem_ports t p (by omega)]
  exact h p (by omega)

/-- With every port copied, the merge is the configuration copied (40_driver_interface.md R131). -/
theorem CopiedPorts.merge_eq {a s t : State} (h : CopiedPorts a s a.ports.length t) (hn : s.nSh = a.n)
    (hui : s.uiSh = a.ui) (hlen : s.ports.length = a.ports.length) (h16 : a.ports.length ≤ 16) :
    merge t = effectiveConfig a := by
  have hports : (t.ports.map fun P => if P.present then P.sh else P.cfg) = a.ports.map Port.cfg :=
    map_ports_eq_map_ports (h.length.trans hlen) h16 fun p hp => by
      rw [h.port p (by omega), if_pos hp]
      rfl
  rw [merge, effectiveConfig, h.nSh, h.uiSh, hn, hui, hports]

theorem CopiedPorts.omitted_eq_false {a s t : State} (h : CopiedPorts a s a.ports.length t)
    (hlen : s.ports.length = a.ports.length) (h1 : 1 ≤ a.ports.length) : omitted t = false := by
  have ha : (0 : PortId).toNat < a.ports.length := h1
  have hpresent : (t.port 0).present = true := by
    rw [h.port 0 (hlen ▸ ha), if_pos ha]
    rfl
  exact List.all_eq_false.2 ⟨_, port_mem t 0 (by rw [h.length, hlen]; exact ha), by rw [hpresent]; decide⟩

theorem CopiedPorts.someBusy_eq_false {a s t : State} {k : Nat} (h : CopiedPorts a s k t) (h16 : s.ports.length ≤ 16)
    (hidle : ∀ P ∈ s.ports, P.state = .idle) : someBusy t = false := by
  refine (someBusy_eq_false_iff t).2 fun P hP => ?_
  obtain ⟨i, hi, rfl⟩ := List.getElem_of_mem hP
  have his : i < s.ports.length := h.length ▸ hi
  obtain ⟨p, rfl⟩ := exists_portId (show i < 16 by omega)
  have hstate : (t.port p).state = (s.port p).state := by
    rw [h.port p his]
    split <;> rfl
  rw [getElem_ports t p hi, hstate]
  exact hidle _ (port_mem s p his)

/-- A machine's effective configuration is one Validate accepts (10_state.md R49, 40_driver_interface.md R134). -/
theorem Inv.validate_effectiveConfig {s : State} (hs : Inv s) :
    validate s.par (effectiveConfig s) = (effectiveConfig s, true) := by
  refine validate_of_accepts ((validate_accepts_iff ..).2 ⟨?_, fun i c hc => ?_⟩)
  · simpa [effectiveConfig] using hs.count
  · obtain ⟨P, hP, rfl⟩ : ∃ P, s.ports[i]? = some P ∧ P.cfg = c := by simpa [effectiveConfig] using hc
    obtain ⟨hi, rfl⟩ := List.getElem?_eq_some_iff.1 hP
    obtain ⟨p, rfl⟩ := exists_portId (hi.trans_le hs.portLimit.2)
    rw [getElem_ports s p hi]
    exact (hs.facts hi).config.valid

theorem installAll_map_cfg {cs : List PortConfig} {Ps : List Port} (h : cs.length = Ps.length) :
    (installAll cs Ps).map Port.cfg = cs := by
  induction cs generalizing Ps with
  | nil => rw [List.length_eq_zero_iff.1 h.symm]; rfl
  | cons c cs ih =>
    cases Ps with
    | nil => cases h
    | cons P Ps => rw [installAll, List.map_cons, install_cfg, ih (Nat.succ.inj h)]

theorem effectiveConfig_putInForce {s : State} {cfg : FullConfig} (accepted : Bool)
    (h : cfg.ports.length = s.ports.length) : effectiveConfig (putInForce s cfg accepted) = cfg := by
  simp only [effectiveConfig, putInForce_n, putInForce_ui, putInForce_ports, installAll_map_cfg h]

/-- Settles O27: the writes copy the effective configuration to the shadow, and APPLY puts it in force as it is, since
Validate accepts it under the invariant. -/
theorem configurationRoundTrip : Obligations.ConfigurationRoundTrip := by
  unfold Obligations.ConfigurationRoundTrip
  intro a b ha _ hpar hlen hb hidle
  obtain ⟨h1, h16⟩ := ha.portLimit
  obtain ⟨t, ht, hcopied⟩ := execAll_copy_config hlen h16
  have hmerge : merge t = effectiveConfig a := hcopied.merge_eq rfl rfl hlen h16
  have happly : applyConfig t = putInForce t (effectiveConfig a) true := by
    rw [applyConfig, hmerge, hcopied.par, hpar, ha.validate_effectiveConfig, hcopied.omitted_eq_false hlen h1]
    rfl
  have hexec : exec .apply t = .next ((applyConfig t).report .ok 0) :=
    execApply_of_idle (hcopied.begun.trans hb) (hcopied.someBusy_eq_false (hlen.trans_le h16) hidle)
  refine ⟨_, (execAll_append [.apply] ht).trans (execAll_cons [] hexec), ?_, ?_⟩
  · rw [happly]
    exact effectiveConfig_putInForce true (by simp [effectiveConfig, hcopied.length, hlen])
  · rw [happly]
    rfl

end Sys2Proof.Machine
end

section
/-! PROOFS. The family 41_symbol_table.md: what the built table holds (R160, R161), which steps change it (R162), and a refill
as its words in the window (R164, R165). -/

namespace Sys2Proof.Machine

/-! ### The bit symbols -/

/-- A bit's symbol, field by field: its high time at ON, then its low time at OFF (41_symbol_table.md R160). -/
theorem bitSymbol_fields (c : PortConfig) (b : Bool) :
    symDur0 (bitSymbol c b) = (if b then c.t1h else c.t0h) ∧ symLvl0 (bitSymbol c b) = onLevel c ∧
      symDur1 (bitSymbol c b) = (if b then c.t1l else c.t0l) ∧ symLvl1 (bitSymbol c b) = offLevel c := by
  cases b <;> exact ⟨symDur0_symWord .., symLvl0_symWord .., symDur1_symWord .., symLvl1_symWord ..⟩

/-- Settles O28: both words of a built entry are bit symbols. -/
theorem tableHoldsBitSymbols : Obligations.TableHoldsBitSymbols := by
  unfold Obligations.TableHoldsBitSymbols
  intro c v
  rw [tableEntry_buildTable]
  simp only [List.forall_mem_cons, List.not_mem_nil, false_imp_iff, implies_true, and_true]
  exact ⟨bitSymbol_fields c (v.getLsbD 1), bitSymbol_fields c (v.getLsbD 0)⟩

/-! ### The steps that change a table -/

theorem HostPortEffect.table {s : State} {p : PortId} {i : Instr} {P : Port} (h : HostPortEffect s p i P) :
    P.table = (s.port p).table := by
  cases h <;> rfl

theorem frameDone_table (P : Port) : (frameDone P).table = P.table := by
  rcases frameDone_cases P with ⟨-, h⟩ | ⟨-, h⟩ <;> rw [h] <;> rfl

theorem FillerEffect.table {s t : State} {p : PortId} (h : FillerEffect s p t) (hp : p.toNat < s.ports.length) :
    (t.port p).table = (s.port p).table := by
  obtain ⟨f, cur, fill, remain, next, lookups, hf, hport⟩ := h.port hp
  rw [hport]
  rcases hf with rfl | rfl | rfl | rfl
  · rfl
  · rfl
  · rfl
  · rw [activationEnd_table, frameDone_table]

theorem TxEffect.table {par : Config.Params} {w : Word} {P Q : Port} (h : TxEffect par w P Q) : Q.table = P.table := by
  cases h <;> rfl

/-- A host instruction that changes a table is the first BEGIN, or an APPLY that is performed (40_driver_interface.md R127,
R129). -/
theorem HostEffect.table_ne {i : Instr} {s t : State} {p : PortId} (h : HostEffect i s t)
    (hne : (t.port p).table ≠ (s.port p).table) :
    (i = .begin ∧ s.begun = false) ∨ (i = .apply ∧ someBusy s = false) := by
  cases h with
  | core hc => rw [hc.port p] at hne; exact absurd rfl hne
  | port q P hq hP hc =>
    rw [hc.port p, port_setPort s q p P hq] at hne
    split at hne
    · next hpq => subst hpq; exact absurd hP.table hne
    · exact absurd rfl hne
  | begin hi hb _ => exact .inl ⟨hi, hb⟩
  | apply hi _ hidle _ => exact .inr ⟨hi, hidle⟩

/-- A step that changes a table is reset or a host instruction: no agent's step does (41_symbol_table.md R162). -/
theorem step_table_ne {s t : State} {p : PortId} (h : step s = .next t) (hp : p.toNat < s.ports.length)
    (hr : fetch s ≠ .reset) (hne : (t.port p).table ≠ (s.port p).table) :
    ∃ i, fetch s = .instr i ∧ HostEffect i s.advance t := by
  cases step_effect h with
  | quiet hc => rw [hc.port p] at hne; exact absurd rfl hne
  | memWrite addr b _ ht => rw [ht] at hne; exact absurd rfl hne
  | reset hf _ => exact absurd hf hr
  | host i hi he => exact ⟨i, hi, he⟩
  | filler q rest _ hq he =>
    by_cases hpq : p = q
    · subst hpq; exact absurd (he.table hp) hne
    · rw [he.other hpq] at hne; exact absurd rfl hne
  | transmitter q rest P _ hq hP ht =>
    rw [ht, port_setPort s.advance q p P hq] at hne
    split at hne
    · next hpq => subst hpq; exact absurd hP.table hne
    · exact absurd rfl hne

/-- Settles O56: the first BEGIN finds every port Idle by the invariant, and APPLY by its own test. -/
theorem tablesChangeOnlyWhenAllIdle : Obligations.TablesChangeOnlyWhenAllIdle := by
  unfold Obligations.TablesChangeOnlyWhenAllIdle
  intro s t p hs h hp hr hne
  obtain ⟨i, hi, he⟩ := step_table_ne h hp hr hne
  rcases he.table_ne hne with ⟨rfl, hb⟩ | ⟨rfl, hidle⟩
  · exact ⟨.inl hi, fun q hq => hs.idle_of_not_begun hb hq⟩
  · exact ⟨.inr hi, fun q hq => idle_of_not_someBusy (s := s.advance) hidle hq⟩

/-! ### The words of a refill, one by one -/

theorem groupWords_getElem? (t : SymTable) {vs : List (BitVec 2)} {g : Nat} {v : BitVec 2} (h : vs[g]? = some v) :
    (groupWords t vs)[2 * g]? = some (tableEntry t v).w0 ∧ (groupWords t vs)[2 * g + 1]? = some (tableEntry t v).w1 := by
  induction vs generalizing g with
  | nil => simp at h
  | cons u us ih =>
    cases g with
    | zero => cases h; exact ⟨rfl, rfl⟩
    | succ g => exact ih h

/-- Group g of a byte, the most significant first (41_symbol_table.md R165). -/
theorem byteGroups_getElem? (b : Byte) {g : Nat} (hg : g < 4) :
    (byteGroups b)[g]? = some (b.extractLsb' (6 - 2 * g) 2) := by
  have hcases : g = 0 ∨ g = 1 ∨ g = 2 ∨ g = 3 := by omega
  rcases hcases with rfl | rfl | rfl | rfl <;> rfl

/-- Byte i's words are the eight from 8 i on. -/
theorem bytesWords_getElem? (t : SymTable) {bs : List Byte} {i k : Nat} {b : Byte} (h : bs[i]? = some b) (hk : k < 8) :
    (bytesWords t bs)[8 * i + k]? = (groupWords t (byteGroups b))[k]? := by
  induction bs generalizing i with
  | nil => simp at h
  | cons c cs ih =>
    have hlength : (groupWords t (byteGroups c)).length = 8 := groupWords_length t (byteGroups c)
    show (groupWords t (byteGroups c) ++ bytesWords t cs)[8 * i + k]? = _
    cases i with
    | zero =>
      cases h
      rw [Nat.mul_zero, Nat.zero_add, List.getElem?_append_left (by omega)]
    | succ i =>
      rw [List.getElem?_append_right (by omega), hlength, show 8 * (i + 1) + k - 8 = 8 * i + k by omega]
      exact ih h

/-- A staged byte that the last ARM wrote is the one at its index, which does not wrap. -/
theorem stagedBytes_getElem? (draws : Nat) {stage : List Byte} (hlen : stage.length < 2 ^ 16) {n i : Nat} {next : Pos}
    {b : Byte} (hi : i < n) (h : stage[next.toNat + i]? = some b) :
    (stagedBytes draws stage n next)[i]? = some b := by
  induction n generalizing i next with
  | zero => exact absurd hi (Nat.not_lt_zero i)
  | succ n ih =>
    cases i with
    | zero => rw [stagedBytes, List.getElem?_cons_zero, show stage[next.toNat]? = some b from h]; rfl
    | succ i =>
      obtain ⟨hlt, -⟩ := List.getElem?_eq_some_iff.1 h
      have hnext : (next + 1).toNat = next.toNat + 1 :=
        BitVec.toNat_add_of_lt (show next.toNat + 1 < 2 ^ 16 by omega)
      refine ih (Nat.lt_of_succ_lt_succ hi) ?_
      rw [hnext, Nat.add_assoc, Nat.add_comm 1 i]
      exact h

/-- The two words a refill writes for group g of its byte i (41_symbol_table.md R165). -/
theorem refillWords_getElem? {s : State} {p : PortId} (hlen : (s.port p).stage.length < 2 ^ 16) {n i g : Nat} {b : Byte}
    (hi : i < n) (hg : g < 4) (h : (s.port p).stage[(s.port p).next.toNat + i]? = some b) :
    (refillWords s p n)[8 * i + 2 * g]? = some (tableEntry (s.port p).table (b.extractLsb' (6 - 2 * g) 2)).w0 ∧
    (refillWords s p n)[8 * i + 2 * g + 1]? = some (tableEntry (s.port p).table (b.extractLsb' (6 - 2 * g) 2)).w1 := by
  have hb := stagedBytes_getElem? s.draws hlen hi h
  obtain ⟨h0, h1⟩ := groupWords_getElem? (s.port p).table (byteGroups_getElem? b hg)
  rw [refillWords, Nat.add_assoc (8 * i), bytesWords_getElem? _ hb (by omega), bytesWords_getElem? _ hb (by omega)]
  exact ⟨h0, h1⟩

/-! ### An activation with room for its words -/

/-- `t` is `s` after an activation of port p has written the words `ws` at P's CUR on, `P` being the port before them and `f`
the activation's last change (42_encoder_engine.md R182). -/
structure Wrote (p : PortId) (f : Port → Port) (ws : List Word) (P : Port) (s t : State) : Prop where
  rest : t = { s with ports := t.ports, symRam := t.symRam }
  length : t.ports.length = s.ports.length
  other : ∀ q, q ≠ p → t.port q = s.port q
  port : t.port p = activationEnd (f { P with
    cur := BitVec.ofNat 16 (placeAfter s.par.w P.cur ws.length), fill := P.fill + BitVec.ofNat 16 ws.length })
  new : ∀ k < ws.length, cellRead t.symRam (p.toNat * s.par.w + placeAfter s.par.w P.cur k) = ws[k]?
  old : ∀ a, (∀ k < ws.length, a ≠ p.toNat * s.par.w + placeAfter s.par.w P.cur k) →
    cellRead t.symRam a = cellRead s.symRam a

/-- Window writes with room for all of them, and then the end of their activation. -/
theorem closeActivation_room {s : State} {p : PortId} (f : Port → Port) (ws : List Word) {P : Port}
    (hp : p.toNat < s.ports.length) (hw : s.par.w ≤ 65535) (hcur : P.cur.toNat < s.par.w)
    (hroom : P.fill.toNat + ws.length ≤ s.par.w) :
    ∃ t, onAgent s p (answer (closeActivation p f (putSyms p ws (s.setPort p P)))) = .next t ∧ Wrote p f ws P s t := by
  have hp' : p.toNat < (s.setPort p P).ports.length := by simpa using hp
  have hsame : (s.setPort p P).port p = P := port_setPort_same s p P hp
  obtain ⟨u, hu, ucur, ufill, unew, uold⟩ := putSyms_room (s := s.setPort p P) ws hp' hw
    (by rwa [hsame]) (by rwa [hsame])
  have hf := putSyms_frame hu
  have hport := hf.port hp'
  have hlength : u.ports.length = s.ports.length := hf.length.trans (setPort_ports_length s p P)
  rw [hsame] at ucur ufill unew uold hport
  have hafter : u.port p = { P with
      cur := BitVec.ofNat 16 (placeAfter s.par.w P.cur ws.length), fill := P.fill + BitVec.ofNat 16 ws.length } := by
    have hlt : placeAfter s.par.w P.cur ws.length < s.par.w := Nat.mod_lt _ (by omega)
    have hc : (u.port p).cur = BitVec.ofNat 16 (placeAfter s.par.w P.cur ws.length) :=
      BitVec.eq_of_toNat_eq (ucur.trans (Nat.mod_eq_of_lt (by omega)).symm)
    have hl : (u.port p).fill = P.fill + BitVec.ofNat 16 ws.length :=
      BitVec.eq_of_toNat_eq (by rw [ufill, BitVec.toNat_add, BitVec.toNat_ofNat]; omega)
    rw [hport, hc, hl]
  refine ⟨u.setPort p (activationEnd (f (u.port p))), ?_, ?_, (setPort_ports_length u p _).trans hlength, fun q hq => ?_,
    ?_, unew, uold⟩
  · rw [onAgent_eq s p _ hp, hu]; rfl
  · have hrest := hf.rest
    rw [hrest]; rfl
  · rw [port_setPort_ne u _ hq, hf.other q hq, port_setPort_ne s P hq]
  · rw [port_setPort_same u p _ (hlength ▸ hp), hafter]

/-- A refill that fits completes, writing its bytes' words after the counters have gone on (42_encoder_engine.md R196). -/
theorem execFillRefill_wrote {s : State} {p : PortId} (hp : p.toNat < s.ports.length) (hw : s.par.w ≤ 65535)
    (hcur : (s.port p).cur.toNat < s.par.w) (hfill : (s.port p).fill.toNat ≤ s.par.w) {n : Nat}
    (hn : n = refillCount s.par (s.port p)) :
    ∃ t, execFillRefill p s = .next t ∧ Wrote p id (refillWords s p n) (refillCounters n (s.port p)) s t := by
  have hfit : n ≤ (s.par.w - (s.port p).fill.toNat) / 8 := hn ▸ Nat.min_le_right _ _
  have hroom : (refillCounters n (s.port p)).fill.toNat + (refillWords s p n).length ≤ s.par.w := by
    rw [refillWords_length]
    show (s.port p).fill.toNat + 8 * n ≤ s.par.w
    omega
  rw [execFillRefill, ← hn, refillBytes_eq n hp]
  exact closeActivation_room id _ hp hw hcur hroom

/-- Settles O34: the words of the refill are the table's, found byte by byte and group by group. -/
theorem fillRefillEncodesStagedBytes : Obligations.FillRefillEncodesStagedBytes := by
  unfold Obligations.FillRefillEncodesStagedBytes
  rintro s p _ n hp rfl hw hcur hfill hlen - hn
  obtain ⟨t, ht, hrest, hlength, hother, hport, hnew, hold⟩ := execFillRefill_wrote hp hw hcur hfill hn
  rw [refillWords_length] at hport hnew hold
  refine ⟨t, ht, hrest, hlength, hother, hport, fun i hi g hg b hb => ?_, hold⟩
  obtain ⟨h0, h1⟩ := refillWords_getElem? hlen hi hg hb
  exact ⟨(hnew _ (by omega)).trans h0, (hnew _ (by omega)).trans h1⟩

end Sys2Proof.Machine
end

section
/-! PROOFS. The family 42_encoder_engine.md, first part: an activation's window writes with and without room for them (R182,
R192, R203), the end of a frame (R207), an ARM that starts none (R185), and the turns that pass (R190). -/

namespace Sys2Proof.Machine

/-! ### The words of a frame's start and of its end (R183) -/

@[simp] theorem resetWords_length (c : PortConfig) : (resetWords c).length = c.resetCount.toNat :=
  List.length_replicate

@[simp] theorem endingWords_length (c : PortConfig) : (endingWords c).length = c.latchCount.toNat + 1 := by
  simp [endingWords]

theorem resetWords_getElem? (c : PortConfig) {k : Nat} (h : k < c.resetCount.toNat) :
    (resetWords c)[k]? = some (symWord c.inv c.resetDur c.inv c.resetDur) := by
  rw [resetWords, List.getElem?_replicate, if_pos h]; rfl

theorem endingWords_getElem?_latch (c : PortConfig) {k : Nat} (h : k < c.latchCount.toNat) :
    (endingWords c)[k]? = some (symWord c.inv c.latchDur c.inv c.latchDur) := by
  rw [endingWords, List.getElem?_append_left (by rwa [List.length_replicate]), List.getElem?_replicate, if_pos h]; rfl

/-- The end marker is the last word (30_encoding.md R96). -/
theorem endingWords_getElem?_marker (c : PortConfig) :
    (endingWords c)[c.latchCount.toNat]? = some (symWord c.inv 0 c.inv 0) := by
  rw [endingWords, List.getElem?_append_right (by rw [List.length_replicate]), List.length_replicate, Nat.sub_self]; rfl

/-! ### Window writes with room -/

/-- An activation that writes a list of words at CUR on, the port being as it stands. -/
theorem activation_wrote {s : State} {p : PortId} (f : Port → Port) (ws : List Word) (hp : p.toNat < s.ports.length)
    (hw : s.par.w ≤ 65535) (hcur : (s.port p).cur.toNat < s.par.w)
    (hroom : (s.port p).fill.toNat + ws.length ≤ s.par.w) :
    ∃ t, onAgent s p (answer (closeActivation p f (putSyms p ws s))) = .next t ∧ Wrote p f ws (s.port p) s t := by
  have h := closeActivation_room f ws hp hw hcur hroom
  rwa [setPort_port_self s p hp] at h

/-- Settles O33: the words written are the reset words. -/
theorem fillStartWritesTheResetWords : Obligations.FillStartWritesTheResetWords := by
  unfold Obligations.FillStartWritesTheResetWords
  rintro s p z _ n hp rfl hw hcur rfl hroom
  obtain ⟨t, ht, hrest, hlength, hother, hport, hnew, hold⟩ :=
    activation_wrote startFrame (resetWords (s.port p).cfg) hp hw hcur (by rwa [resetWords_length])
  rw [resetWords_length] at hport hnew hold
  exact ⟨t, ht, hrest, hlength, hother, hport, fun k hk => (hnew k hk).trans (resetWords_getElem? _ hk), hold⟩

/-- Settles O35: the words written are the latch words and then the end marker. -/
theorem fillEndWritesLatchAndMarker : Obligations.FillEndWritesLatchAndMarker := by
  unfold Obligations.FillEndWritesLatchAndMarker
  rintro s p _ n hp rfl hw hcur rfl hroom
  obtain ⟨t, ht, hrest, hlength, hother, hport, hnew, hold⟩ :=
    activation_wrote endFrame (endingWords (s.port p).cfg) hp hw hcur (by rwa [endingWords_length])
  rw [endingWords_length] at hport hnew hold
  exact ⟨t, ht, hrest, hlength, hother, hport,
    fun k hk => (hnew k (Nat.lt_succ_of_lt hk)).trans (endingWords_getElem?_latch _ hk),
    (hnew _ (Nat.lt_succ_self _)).trans (endingWords_getElem?_marker _), hold⟩

/-! ### Window writes with no room -/

theorem putSym_fill {s t : State} {p : PortId} {w : Word} (hp : p.toNat < s.ports.length) (h : putSym p w s = .ok t) :
    (t.port p).fill = (s.port p).fill + 1 := by
  obtain ⟨-, rfl⟩ := putSym_ok h
  rw [setSym_port, port_setPort_same s p _ hp, pushed_fill]

section
variable {s : State} {p : PortId}

/-- More words than the window has room for: the PutSym that finds it full faults, wherever CUR is. -/
theorem putSyms_overflow {ws : List Word} (hp : p.toNat < s.ports.length) (hw : s.par.w ≤ 65535)
    (hfill : (s.port p).fill.toNat ≤ s.par.w) (hover : s.par.w < (s.port p).fill.toNat + ws.length) :
    putSyms p ws s = .error .windowOverflow := by
  induction ws generalizing s with
  | nil => exact absurd hover (Nat.not_lt.2 hfill)
  | cons w ws ih =>
    rw [List.length_cons] at hover
    cases hu : putSym p w s with
    | error r =>
      obtain ⟨-, rfl⟩ := putSym_error.1 hu
      simp only [putSyms, hu]
    | ok u =>
      obtain ⟨hnotFull, -⟩ := putSym_ok hu
      have hf := putSym_frame hu
      have hpar := hf.par
      have hone : (u.port p).fill.toNat = (s.port p).fill.toNat + 1 := by
        rw [putSym_fill hp hu]
        exact BitVec.toNat_add_of_lt (show (s.port p).fill.toNat + 1 < 2 ^ 16 by omega)
      simp only [putSyms, hu]
      exact ih (hf.length ▸ hp) (hpar ▸ hw) (by rw [hpar]; omega) (by rw [hpar]; omega)

theorem activation_overflow (f : Port → Port) {ws : List Word} (hp : p.toNat < s.ports.length) (hw : s.par.w ≤ 65535)
    (hfill : (s.port p).fill.toNat ≤ s.par.w) (hover : s.par.w < (s.port p).fill.toNat + ws.length) :
    onAgent s p (answer (closeActivation p f (putSyms p ws s))) = .fault .windowOverflow := by
  rw [onAgent_eq s p _ hp, putSyms_overflow hp hw hfill hover]; rfl

end

/-- Settles O37: FILL_START and FILL_END write every word they have, FILL_REFILL only those that fit. -/
theorem windowOverflowFaults : Obligations.WindowOverflowFaults := by
  unfold Obligations.WindowOverflowFaults
  rintro s p _ hp rfl hw hfill
  refine ⟨fun hover z => ?_, fun hover => ?_, fun hcur => ?_⟩
  · exact activation_overflow startFrame hp hw hfill (by rwa [resetWords_length])
  · exact activation_overflow endFrame hp hw hfill (by rwa [endingWords_length])
  · obtain ⟨t, ht, -⟩ := execFillRefill_wrote hp hw hcur hfill rfl
    exact ⟨t, ht⟩

/-! ### A spurious cause -/

/-- Settles O38: a step that fetched one would fault, which no state under the invariant does. -/
theorem spuriousCauseFaults : Obligations.SpuriousCauseFaults := by
  unfold Obligations.SpuriousCauseFaults
  refine fun s p e => ⟨rfl, fun hs hf => ?_⟩
  obtain ⟨-, hnot⟩ := invariantExcludesFaults s hs
  exact hnot (step_of_spuriousCause hf)

/-! ### The end of a frame -/

theorem execFillDone_eq {s : State} {p : PortId} (hp : p.toNat < s.ports.length) :
    execFillDone p s = .next (s.setPort p (activationEnd (frameDone (s.port p)))) := onAgent_eq s p _ hp

/-- Settles O36: with and without a deferred TEARDOWN. -/
theorem fillDoneReturnsToIdle : Obligations.FillDoneReturnsToIdle := by
  unfold Obligations.FillDoneReturnsToIdle
  rintro s p z _ hp rfl
  show (_ → execFillDone p s = _) ∧ (_ → execFillDone p s = _)
  rw [execFillDone_eq hp]
  rcases frameDone_cases (s.port p) with ⟨htd, h⟩ | ⟨htd, h⟩ <;> rw [h]
  · exact ⟨fun hfalse => absurd htd (Bool.eq_false_iff.1 hfalse), fun _ => rfl⟩
  · exact ⟨fun _ => rfl, fun htrue => absurd htrue (Bool.eq_false_iff.1 htd)⟩

/-! ### An ARM that starts no frame, by the tests of R185 -/

section
variable {s : State} {p : PortId}

theorem execArm_of_not_begun (hp : p.toNat < s.ports.length) (hb : s.begun = false) :
    execArm p s = .next (s.report .notBegun p) := by
  rw [execArm, portCommand_of_lt _ hp]
  simp [hb, finish]

theorem execArm_of_busy (hp : p.toNat < s.ports.length) (hb : s.begun = true) (hbusy : (s.port p).state ≠ .idle) :
    execArm p s = .next ((s.setPort p (markBusy (s.port p))).report .busy p) := by
  rw [execArm, portCommand_of_lt _ hp]
  simp [hb, hbusy, finish]

theorem execArm_of_disabled (hp : p.toNat < s.ports.length) (hb : s.begun = true) (hidle : (s.port p).state = .idle)
    (hen : (s.port p).cfg.en = false) : execArm p s = .next (s.report .disabled p) := by
  rw [execArm, portCommand_of_lt _ hp]
  simp [hb, hidle, hen, finish]

theorem execArm_of_beyond (hp : p.toNat < s.ports.length) (hb : s.begun = true) (hidle : (s.port p).state = .idle)
    (hen : (s.port p).cfg.en = true) (hmem : beyondHostMem s.par (s.port p).cfg = true) :
    execArm p s = .next (s.report .addrErr p) := by
  rw [execArm, portCommand_of_lt _ hp]
  simp [hb, hidle, hen, hmem, finish]

end

/-- Settles O31: the tests of R185 and R250 in their order. -/
theorem armIsTurnedAwayInOrder : Obligations.ArmIsTurnedAwayInOrder := by
  unfold Obligations.ArmIsTurnedAwayInOrder
  refine ⟨fun s p hp => portCommand_beyond _ hp, ?_⟩
  rintro s p P hp rfl
  exact ⟨execArm_of_not_begun hp, execArm_of_busy hp, execArm_of_disabled hp,
    fun hb hidle hen hmem => execArm_of_beyond hp hb hidle hen (decide_eq_true hmem)⟩

/-! ### Turns that pass -/

theorem step_of_pass {s : State} (h : fetch s = .pass) : step s = .next s.advance := by
  simp [step, h]

theorem txEnabled_eq_false {P : Port} (h : P.txActive = false ∨ (P.fill = 0 ∧ P.starved = true)) :
    txEnabled P = false := by
  rcases h with h | ⟨hfill, hstarved⟩
  · simp [txEnabled, h]
  · simp [txEnabled, hfill, hstarved]

theorem causePending_eq_false {par : Config.Params} {P : Port} (hlwm : P.lwmIe = false ∨ par.lwm < P.fill.toNat)
    (hdone : P.txdoneIe = false ∨ P.txdoneFlag = false) : causePending par P = false := by
  have htx : txdonePending P = false := Bool.and_eq_false_iff.2 hdone
  have hlow : lwmPending par P = false :=
    Bool.and_eq_false_iff.2 (hlwm.imp_right fun h => decide_eq_false (Nat.not_le.2 h))
  rw [causePending, htx, hlow]; rfl

/-- Settles O6: no turn left, a filler with no cause pending, a transmitter that is not enabled. -/
theorem agentWithoutAStepPasses : Obligations.AgentWithoutAStepPasses := by
  unfold Obligations.AgentWithoutAStepPasses
  refine fun s p rest => ⟨fun h => ?_, fun h hlwm hdone => ?_, fun h htx => ?_⟩
  · simp [step, fetch, h]
  · rw [step_of_pass (fetch_filler_idle h (causePending_eq_false hlwm hdone)), advance_of_agenda h]
  · rw [step_of_pass (fetch_transmitter_disabled h (txEnabled_eq_false htx)), advance_of_agenda h]

end Sys2Proof.Machine
end

section
/-! PROOFS. The family 42_encoder_engine.md, second part: the moves of a port's STATE (R180), and what a host access leaves
of a busy port (R212). -/

namespace Sys2Proof.Machine

/-! ### The moves of the filler -/

section
variable {s t : State} {p : PortId}

theorem execFillStart_state (h : execFillStart p s = .next t) : (t.port p).state = .streaming := by
  obtain ⟨hp, u, -, ha⟩ := execFillStart_activation h
  rw [ha.port hp]; rfl

theorem execFillRefill_state (h : execFillRefill p s = .next t) : (t.port p).state = (s.port p).state := by
  obtain ⟨hp, u, -, ha⟩ := execFillRefill_activation h
  rw [ha.port hp, activationEnd_state, id, ha.frame.port hp]

theorem execFillEnd_state (h : execFillEnd p s = .next t) : (t.port p).state = .frameEnd := by
  obtain ⟨hp, u, -, ha⟩ := execFillEnd_activation h
  rw [ha.port hp]; rfl

theorem execFillDone_state (h : execFillDone p s = .next t) : (t.port p).state = .idle := by
  obtain ⟨hp, ha⟩ := execFillDone_activation h
  rw [ha.port hp, activationEnd_state, frameDone_state]

end

/-- What a filler's instruction does to the STATE of its port, and under which cause: `P` is the port before it and `Q` after
it (42_encoder_engine.md R180, R190). -/
inductive FillerMove (par : Config.Params) (p : PortId) (P Q : Port) : Instr → Prop
  | start (z : Bool) : P.state = .frameStart → Q.state = .streaming → lwmPending par P = true →
    FillerMove par p P Q (.fillStart p z)
  | refill : P.state = .streaming → Q.state = .streaming → lwmPending par P = true → P.remain ≠ 0 →
    FillerMove par p P Q (.fillRefill p)
  | finish : P.state = .streaming → Q.state = .frameEnd → lwmPending par P = true → P.remain = 0 →
    FillerMove par p P Q (.fillEnd p)
  | done (z : Bool) : P.state = .frameEnd → Q.state = .idle → txdonePending P = true →
    FillerMove par p P Q (.fillDone p z)

/-- The instruction a pending cause selects moves its port, where it does not fault. -/
theorem exec_fillerInstr_move {s t : State} {p : PortId} (hc : causePending s.par (s.port p) = true)
    (h : exec (fillerInstr p (txdonePending (s.port p)) (s.port p).state ((s.port p).remain == 0)) s = .next t) :
    FillerMove s.par p (s.port p) (t.port p)
      (fillerInstr p (txdonePending (s.port p)) (s.port p).state ((s.port p).remain == 0)) := by
  have hlow : txdonePending (s.port p) = false → lwmPending s.par (s.port p) = true := fun hnot => by
    rwa [causePending, hnot, Bool.false_or] at hc
  cases hdone : txdonePending (s.port p) <;> cases hst : (s.port p).state <;> rw [hdone, hst] at h
  case false.frameStart => exact .start _ hst (execFillStart_state h) (hlow hdone)
  case false.streaming =>
    cases hz : (s.port p).remain == 0 <;> rw [hz] at h
    case false => exact .refill hst ((execFillRefill_state h).trans hst) (hlow hdone) (beq_eq_false_iff_ne.1 hz)
    case true => exact .finish hst (execFillEnd_state h) (hlow hdone) (beq_iff_eq.1 hz)
  case true.frameEnd => exact .done _ hst (execFillDone_state h) hdone
  all_goals cases h

/-- A filler's turn passes, or its instruction moves its port. -/
theorem filler_turn {s t : State} {p : PortId} {rest : List Turn} (ha : s.agenda = .filler p :: rest)
    (hp : p.toNat < s.ports.length) (h : step s = .next t) :
    (fetch s = .pass ∧ t = s.advance) ∨ ∃ i, fetch s = .instr i ∧ FillerMove s.par p (s.port p) (t.port p) i := by
  cases hc : causePending s.par (s.port p) with
  | false =>
    have hf := fetch_filler_idle ha hc
    rw [step_of_pass hf] at h
    cases h
    exact .inl ⟨hf, rfl⟩
  | true =>
    have hf := fetch_filler_pending ha hp hc
    rw [step_of_fetch hf] at h
    exact .inr ⟨_, hf, exec_fillerInstr_move (s := s.advance) hc h⟩

theorem fillerInstr_eq_fillRefill {p q : PortId} {cause : Bool} {st : FrameState} {z : Bool}
    (h : fillerInstr q cause st z = .fillRefill p) : q = p := by
  unfold fillerInstr at h
  split at h <;> cases h
  rfl

/-- FILL_REFILL is fetched in its own filler's turn. -/
theorem fetch_fillRefill {s : State} {p : PortId} (h : fetch s = .instr (.fillRefill p)) :
    ∃ rest, s.agenda = .filler p :: rest := by
  rcases fetch_instr h with ⟨we, bytes, addr, data, rest, -, hd⟩ | ⟨q, e, rest, ha, -, hen, hi⟩ |
    ⟨q, rest, -, -, -, -, ⟨-, hi⟩ | ⟨-, hi⟩⟩
  · rcases decode_bus_cases hd with hi | ⟨hi, -⟩ | ⟨c, hi⟩
    · cases hi
    · cases hi
    · cases c <;> cases hi
  · obtain ⟨-, rfl⟩ := activationEntry_some hen
    rw [decodeEvent_eventVector] at hi
    exact ⟨rest, fillerInstr_eq_fillRefill hi.symm ▸ ha⟩
  · cases hi
  · rcases decodeSym_cases q (symRead s q (s.port q).rd.toNat) with ⟨-, hd⟩ | ⟨-, -, hd⟩ | ⟨-, -, hd⟩ <;>
      cases hi.trans hd

/-! ### The moves of every step -/

/-- ARM is the one host instruction that moves a port. -/
theorem HostPortEffect.state_ne {s : State} {p : PortId} {i : Instr} {P : Port} (h : HostPortEffect s p i P)
    (hne : P.state ≠ (s.port p).state) :
    i = .arm p ∧ s.begun = true ∧ (s.port p).state = .idle ∧ (s.port p).cfg.en = true ∧
      beyondHostMem s.par (s.port p).cfg = false ∧ P.state = .frameStart := by
  cases h with
  | arm hb hidle hen hmem => exact ⟨rfl, hb, hidle, hen, hmem, rfl⟩
  | _ => exact absurd rfl hne

theorem TxEffect.state {par : Config.Params} {w : Word} {P Q : Port} (h : TxEffect par w P Q) : Q.state = P.state := by
  cases h <;> rfl

/-- Settles O51: the host moves a port by ARM alone, its filler by the four activations, and its transmitter not at all. -/
theorem frameStatesMoveAlongTheCycle : Obligations.FrameStatesMoveAlongTheCycle := by
  unfold Obligations.FrameStatesMoveAlongTheCycle
  refine fun s t p h hp hr => ⟨fun hne => ?_, fun hf => ?_⟩
  · cases step_portEffect h hp hr with
    | same hport => exact absurd (congrArg Port.state hport) hne
    | installed c valid hport => exact absurd (congrArg Port.state hport) hne
    | transmitter rest _ he => exact absurd he.state hne
    | host i hi he =>
      obtain ⟨rfl, hb, hidle, hen, hmem, hstart⟩ := he.state_ne hne
      exact .inl ⟨hidle, hstart, hi, hb, hen, Nat.not_lt.1 (of_decide_eq_false hmem)⟩
    | filler rest ha _ =>
      rcases filler_turn ha hp h with ⟨-, rfl⟩ | ⟨i, hi, hmove⟩
      · exact absurd rfl hne
      · cases hmove with
        | start z hst hst' hlow => exact .inr (.inl ⟨hst, hst', ⟨z, hi⟩, hlow⟩)
        | refill hst hst' _ _ => exact absurd (hst'.trans hst.symm) hne
        | finish hst hst' hlow hz => exact .inr (.inr (.inl ⟨hst, hst', hi, hlow, hz⟩))
        | done z hst hst' hdone => exact .inr (.inr (.inr ⟨hst, hst', ⟨z, hi⟩, hdone⟩))
  · obtain ⟨rest, ha⟩ := fetch_fillRefill hf
    rcases filler_turn ha hp h with ⟨hpass, -⟩ | ⟨i, hi, hmove⟩
    · cases hpass.symm.trans hf
    · cases hi.symm.trans hf
      cases hmove with
      | refill hst hst' hlow hz => exact ⟨hst, hst', hlow, hz⟩

/-! ### Host accesses to a busy port -/

/-- `Q` is `P` but for the shadow fields, PRESENT, the sticky bits and TD_PENDING (42_encoder_engine.md R212). -/
def Undisturbed (P Q : Port) : Prop :=
  Q = { P with
    sh := Q.sh, present := Q.present, errBusy := Q.errBusy, errUnderrun := Q.errUnderrun, done := Q.done,
    tdPending := Q.tdPending }

theorem Undisturbed.refl (P : Port) : Undisturbed P P := rfl

/-- ARM's start and TEARDOWN's release are for an Idle port. -/
theorem HostPortEffect.undisturbed {s : State} {p : PortId} {i : Instr} {P : Port} (h : HostPortEffect s p i P)
    (hbusy : (s.port p).state ≠ .idle) : Undisturbed (s.port p) P := by
  cases h with
  | arm _ hidle _ _ => exact absurd hidle hbusy
  | release _ hidle => exact absurd hidle hbusy
  | _ => rfl

/-- No host instruction writes symbol RAM (20_memory.md R74). -/
theorem HostEffect.symRam {i : Instr} {s t : State} (h : HostEffect i s t) : t.symRam = s.symRam := by
  cases h with
  | core hc => exact hc.symRam
  | port p P _ _ hc => exact hc.symRam
  | begin _ _ hc => exact hc.symRam
  | apply _ _ _ hc => exact hc.symRam

/-- After BEGIN every other host instruction leaves a busy port's frame alone: APPLY is performed only with all ports Idle
(40_driver_interface.md R129). -/
theorem HostEffect.undisturbed {i : Instr} {s t : State} {p : PortId} (h : HostEffect i s t) (hb : s.begun = true)
    (hp : p.toNat < s.ports.length) (hbusy : (s.port p).state ≠ .idle) : Undisturbed (s.port p) (t.port p) := by
  cases h with
  | core hc => rw [hc.port p]; exact .refl _
  | port q P hq hP hc =>
    rw [hc.port p, port_setPort s q p P hq]
    split
    · next hpq => subst hpq; exact hP.undisturbed hbusy
    · exact .refl _
  | begin _ hnot _ => exact absurd hb (Bool.eq_false_iff.1 hnot)
  | apply _ _ hidle _ => exact absurd (idle_of_not_someBusy hidle hp) hbusy

/-- A host access that answers a next state is an instruction of the host (30_encoding.md R89). -/
theorem host_turn {s t : State} {we : Bool} {bytes : Nat} {addr data : Word} {rest : List Turn}
    (ha : s.agenda = .host we bytes addr data :: rest) (h : step s = .next t) : ∃ i, HostEffect i s.advance t := by
  have hf := fetch_host ha
  cases hd : decode (.bus we bytes (addr - s.par.base) data) with
  | ok i =>
    rw [step_of_fetch (hf.trans (fetchCode_ok hd))] at h
    exact ⟨i, (exec_bus_answers hd s.advance).of_next h⟩
  | error r =>
    rw [step_of_reject (hf.trans (fetchCode_error hd))] at h
    cases h

/-- Settles O52: by what one host instruction can do. -/
theorem noHostAccessDisturbsAFrame : Obligations.NoHostAccessDisturbsAFrame := by
  unfold Obligations.NoHostAccessDisturbsAFrame
  intro s t we bytes addr data rest p ha h hb hp hbusy
  obtain ⟨i, he⟩ := host_turn ha h
  exact ⟨he.symRam, HostEffect.undisturbed (s := s.advance) he hb hp hbusy⟩

end Sys2Proof.Machine
end

section
/-! PROOFS. The family 43_transmitter.md: what each transmitter instruction leaves (R231 to R236), and the service bound with
the margin that keeps a port from underrunning (R238, R240). -/

namespace Sys2Proof.Machine

/-! ### The transmitter's instructions -/

/-- Settles O39: the word is consumed, then its two pulses are emitted. -/
theorem symEmitAppendsTwoPulses : Obligations.SymEmitAppendsTwoPulses := by
  unfold Obligations.SymEmitAppendsTwoPulses
  rintro s p lvl1 lvl0 dur1 dur0 _ hp rfl
  exact onAgent_eq s p _ hp

/-- Settles O40: the word is consumed, the half end's pulse is emitted, and the transmitter stops. -/
theorem endWordsStopTheTransmitter : Obligations.EndWordsStopTheTransmitter := by
  unfold Obligations.EndWordsStopTheTransmitter
  rintro s p lvl1 lvl0 dur1 dur0 _ hp rfl
  exact ⟨onAgent_eq s p _ hp, onAgent_eq s p _ hp⟩

/-- Settles O41: no word is consumed. -/
theorem underrunIsRecorded : Obligations.UnderrunIsRecorded := by
  unfold Obligations.UnderrunIsRecorded
  rintro s p _ hp rfl
  exact onAgent_eq s p _ hp

/-! ### The service bound (R238) -/

theorem txAdmitted_eq_false {par : Config.Params} {P : Port} {bound : Nat} (hb : par.serviceBound = some bound)
    (h : bound < latAfterTx par P) : txAdmitted par P = false := by
  simpa [txAdmitted, hb] using h

theorem fetch_transmitter_unadmitted {s : State} {p : PortId} {rest : List Turn} (h : s.agenda = .transmitter p :: rest)
    (hadm : txAdmitted s.par (s.port p) = false) : fetch s = .pass := by
  simp [fetch, h, transmitterCode, hadm, fetchAgent]

/-- Settles O9: the step is not admitted, so its turn passes. -/
theorem serviceBoundHoldsTheTransmitter : Obligations.ServiceBoundHoldsTheTransmitter := by
  unfold Obligations.ServiceBoundHoldsTheTransmitter
  intro s p rest bound h _ hb hlat
  rw [step_of_pass (fetch_transmitter_unadmitted h (txAdmitted_eq_false hb hlat)), advance_of_agenda h]

/-! ### The margin of one port (R240) -/

/-- `LatencyInv` of a port's own data: while it is Streaming with its low-watermark cause pending, the words it still has
and the steps its filler is late by are together at least F_min. -/
def LatencyMargin (par : Config.Params) (P : Port) : Prop :=
  P.state = .streaming → lwmPending par P = true → fMin par P ≤ P.fill.toNat + P.lat

theorem latencyInv_iff (s : State) :
    LatencyInv s ↔ ∀ p : PortId, p.toNat < s.ports.length → LatencyMargin s.par (s.port p) := Iff.rfl

theorem fMin_le_lwm (par : Config.Params) (P : Port) : fMin par P ≤ par.lwm := by
  unfold fMin; split <;> omega

theorem fMin_le_eight (par : Config.Params) (P : Port) : fMin par P ≤ 8 := by
  unfold fMin; split <;> omega

theorem fMin_le_resetCount {par : Config.Params} {P : Port} (h : P.cfg.resetCount.toNat ≤ par.lwm) :
    fMin par P ≤ P.cfg.resetCount.toNat := by
  rw [fMin, if_pos h]; exact Nat.min_le_right _ _

theorem latAfterTx_of_lwmPending {par : Config.Params} {P : Port} (h : lwmPending par P = true) :
    latAfterTx par P = P.lat + 1 := by
  rw [latAfterTx, causePending, h, Bool.or_true, if_pos rfl]

section
variable {par : Config.Params} {P Q : Port}

theorem latencyMargin_of_not_streaming (h : P.state ≠ .streaming) : LatencyMargin par P := fun hs => absurd hs h

/-- What the host may do to a busy port touches neither its window nor its RESET_COUNT. -/
theorem LatencyMargin.undisturbed (h : LatencyMargin par P) (hQ : Undisturbed P Q) : LatencyMargin par Q := by
  rw [hQ]; exact h

/-- A step without a word is counted while the cause is pending. -/
theorem LatencyMargin.underrun (h : LatencyMargin par P) : LatencyMargin par (underrun par P) := by
  intro hs hlow
  have hmargin := h hs hlow
  show fMin par P ≤ P.fill.toNat + latAfterTx par P
  rw [latAfterTx_of_lwmPending (P := P) hlow]
  omega

/-- A consumed word is made up for by LAT while the cause is pending, and makes it pending only by taking FILL down to
LWM. -/
theorem LatencyMargin.consume (h : LatencyMargin par P) (hf : P.fill ≠ 0) : LatencyMargin par (consume par P) := by
  intro hs hlow
  obtain ⟨hie, -⟩ := (lwmPending_iff _ _).1 hlow
  have hpos : P.fill.toNat ≠ 0 := BitVec.toNat_ne_iff_ne.2 hf
  show fMin par P ≤ (P.fill - 1).toNat + latAfterTx par P
  rw [toNat_sub_one hf]
  by_cases hle : P.fill.toNat ≤ par.lwm
  · have hpending : lwmPending par P = true := (lwmPending_iff _ _).2 ⟨hie, hle⟩
    have hmargin := h hs hpending
    rw [latAfterTx_of_lwmPending hpending]
    omega
  · have hmin := fMin_le_lwm par P
    omega

/-- Stopping the transmitter and appending to TRACE leave the margin as the consumed word does. -/
theorem LatencyMargin.tx {w : Word} (h : LatencyMargin par P) (hQ : TxEffect par w P Q) : LatencyMargin par Q := by
  cases hQ with
  | underrun _ => exact h.underrun
  | symEnd hf _ => exact h.consume hf
  | symHalfEnd hf _ _ => exact h.consume hf
  | symEmit hf _ _ => exact h.consume hf

end

/-! ### The activations that leave a port Streaming -/

/-- FILL after `k` window writes with room. -/
theorem toNat_add_ofNat {v : Pos} {k : Nat} (h : v.toNat + k ≤ 65535) :
    (v + BitVec.ofNat 16 k).toNat = v.toNat + k := by
  rw [BitVec.toNat_add, BitVec.toNat_ofNat]
  omega

/-- FILL_START leaves RESET_COUNT words in a window that was empty. -/
theorem latencyMargin_fillStart {s t : State} {p : PortId} (hs : Inv s) (hp : p.toNat < s.ports.length)
    (hstate : (s.port p).state = .frameStart) (h : execFillStart p s = .next t) :
    LatencyMargin s.par (t.port p) := by
  have hP := hs.facts hp
  have hw := hs.w_le
  obtain ⟨-, -, -, hfillZero⟩ := hP.engine.frameStart hstate
  have hempty : (s.port p).fill.toNat = 0 := by rw [hfillZero]; rfl
  obtain ⟨-, -, -, -, -, -, -, hcount, -⟩ := (portBad_eq_false ..).1 hP.config.valid
  obtain ⟨u, hu, hW⟩ := activation_wrote startFrame (resetWords (s.port p).cfg) hp hw hP.window.cur_lt
    (by rw [resetWords_length]; omega)
  cases h.symm.trans hu
  have hcfg : (t.port p).cfg = (s.port p).cfg := by rw [hW.port]; rfl
  have hfill : (t.port p).fill.toNat = (s.port p).cfg.resetCount.toNat := by
    rw [hW.port, activationEnd_fill, startFrame_fill, resetWords_length]
    exact (toNat_add_ofNat (by omega)).trans (by omega)
  intro _ hlow
  obtain ⟨-, hle⟩ := (lwmPending_iff _ _).1 hlow
  have hmin := fMin_le_resetCount (par := s.par) (P := t.port p) (by rwa [hcfg, ← hfill])
  rw [hcfg, ← hfill] at hmin
  omega

/-- FILL_REFILL writes at least one byte's eight words: one remains, and a window at LWM or below has room for it. -/
theorem latencyMargin_fillRefill {s t : State} {p : PortId} (hs : Inv s) (hp : p.toNat < s.ports.length)
    (hlow : lwmPending s.par (s.port p) = true) (hremain : (s.port p).remain ≠ 0) (h : execFillRefill p s = .next t) :
    LatencyMargin s.par (t.port p) := by
  have hP := hs.facts hp
  have hw := hs.w_le
  have hle := hP.window.fill_le
  obtain ⟨⟨-, -, -, -, hlwm, -⟩, -⟩ := hs.params
  obtain ⟨-, hfew⟩ := (lwmPending_iff _ _).1 hlow
  have hpos : (s.port p).remain.toNat ≠ 0 := BitVec.toNat_ne_iff_ne.2 hremain
  obtain ⟨n, hn⟩ : ∃ n, n = refillCount s.par (s.port p) := ⟨_, rfl⟩
  obtain ⟨u, hu, hW⟩ := execFillRefill_wrote hp hw hP.window.cur_lt hle hn
  cases h.symm.trans hu
  have hone : 1 ≤ n := by rw [hn, refillCount]; omega
  have hfit : n ≤ (s.par.w - (s.port p).fill.toNat) / 8 := hn ▸ Nat.min_le_right _ _
  have hfill : (t.port p).fill.toNat = (s.port p).fill.toNat + 8 * n := by
    rw [hW.port, activationEnd_fill, refillWords_length]
    exact toNat_add_ofNat (v := (s.port p).fill) (by omega)
  intro _ _
  have hmin := fMin_le_eight s.par (t.port p)
  omega

/-- A filler's turn: FILL_START and FILL_REFILL leave the port Streaming with the margin, the other two leave Streaming. -/
theorem latencyMargin_filler {s t : State} {p : PortId} {rest : List Turn} (hs : Inv s)
    (hl : LatencyMargin s.par (s.port p)) (ha : s.agenda = .filler p :: rest) (hp : p.toNat < s.ports.length)
    (h : step s = .next t) : LatencyMargin s.par (t.port p) := by
  rcases filler_turn ha hp h with ⟨-, rfl⟩ | ⟨i, hi, hmove⟩
  · exact hl
  · have hadvance : Inv s.advance := hs.of_sameCore (sameCore_advance s)
    rw [step_of_fetch hi] at h
    cases hmove with
    | start z hst _ _ => exact latencyMargin_fillStart (s := s.advance) hadvance hp hst h
    | refill _ _ hlow hremain => exact latencyMargin_fillRefill (s := s.advance) hadvance hp hlow hremain h
    | finish _ hst' _ _ => exact latencyMargin_of_not_streaming (by rw [hst']; decide)
    | done z _ hst' _ => exact latencyMargin_of_not_streaming (by rw [hst']; decide)

/-! ### Every step -/

/-- A port comes to Streaming from no Idle port in one step (42_encoder_engine.md R180). -/
theorem ne_idle_of_step_streaming {s t : State} {p : PortId} (h : step s = .next t) (hp : p.toNat < s.ports.length)
    (hr : fetch s ≠ .reset) (ht : (t.port p).state = .streaming) : (s.port p).state ≠ .idle := by
  intro hidle
  obtain ⟨hmoves, -⟩ := frameStatesMoveAlongTheCycle s t p h hp hr
  rcases hmoves (by rw [ht, hidle]; decide) with ⟨-, ht', -⟩ | ⟨hst, -⟩ | ⟨hst, -⟩ | ⟨hst, -⟩
  · cases ht.symm.trans ht'
  · cases hidle.symm.trans hst
  · cases hidle.symm.trans hst
  · cases hidle.symm.trans hst

/-- A host instruction leaves a frame alone, and starts none that is Streaming at once. -/
theorem latencyMargin_host {s t : State} {p : PortId} {i : Instr} (hs : Inv s) (hl : LatencyMargin s.par (s.port p))
    (hp : p.toNat < s.ports.length) (h : step s = .next t) (hi : fetch s = .instr i) (he : HostEffect i s.advance t) :
    LatencyMargin s.par (t.port p) := by
  intro ht
  have hbusy := ne_idle_of_step_streaming h hp (by rw [hi]; exact Fetched.noConfusion) ht
  obtain ⟨-, hbegun⟩ := (hs.facts hp).engine.busy_begun hbusy
  exact hl.undisturbed (HostEffect.undisturbed (s := s.advance) he hbegun hp hbusy) ht

theorem resetStep_state {s : State} {p : PortId} (hp : p.toNat < s.ports.length) :
    ((resetStep s).port p).state = .idle := by
  have hport : (resetStep s).port p = Port.reset s.par := resetOf_port s.par hp
  rw [hport]; rfl

/-- Every step keeps every port's margin. -/
theorem step_latencyMargin {s t : State} {p : PortId} (hs : Inv s) (hl : LatencyMargin s.par (s.port p))
    (hp : p.toNat < s.ports.length) (h : step s = .next t) : LatencyMargin s.par (t.port p) := by
  cases step_effect h with
  | quiet hc => rw [hc.port p]; exact hl
  | memWrite addr b _ ht => rw [ht]; exact hl
  | reset _ ht =>
    rw [ht]
    exact latencyMargin_of_not_streaming (by rw [resetStep_state (s := s.advance) hp]; decide)
  | host i hi he => exact latencyMargin_host hs hl hp h hi he
  | filler q rest ha _ he =>
    by_cases hpq : p = q
    · subst hpq; exact latencyMargin_filler hs hl ha hp h
    · rw [he.other hpq]; exact hl
  | transmitter q rest P _ hq hP ht =>
    rw [ht, port_setPort s.advance q p P hq]
    split
    · next hpq => subst hpq; exact hl.tx hP
    · exact hl

/-! ### No underrun -/

theorem fillerInstr_ne_symUnderrun (p q : PortId) (cause : Bool) (st : FrameState) (z : Bool) :
    fillerInstr q cause st z ≠ .symUnderrun p := by
  unfold fillerInstr
  split <;> exact Instr.noConfusion

/-- SYM_UNDERRUN is fetched by a transmitter that is enabled and admitted and finds its window empty (R230). -/
theorem fetch_symUnderrun {s : State} {p : PortId} (h : fetch s = .instr (.symUnderrun p)) :
    txEnabled (s.port p) = true ∧ txAdmitted s.par (s.port p) = true ∧ (s.port p).fill = 0 := by
  rcases fetch_instr h with ⟨we, bytes, addr, data, rest, -, hd⟩ | ⟨q, e, rest, -, -, hen, hi⟩ |
    ⟨q, rest, -, -, hen, hadm, ⟨hfill, hi⟩ | ⟨-, hi⟩⟩
  · rcases decode_bus_cases hd with hi | ⟨hi, -⟩ | ⟨c, hi⟩
    · cases hi
    · cases hi
    · cases c <;> cases hi
  · obtain ⟨-, rfl⟩ := activationEntry_some hen
    rw [decodeEvent_eventVector] at hi
    exact absurd hi.symm (fillerInstr_ne_symUnderrun p q _ _ _)
  · cases hi
    exact ⟨hen, hadm, hfill⟩
  · have hc := consumedBy_decodeSym q (symRead s q (s.port q).rd.toNat)
    rw [← hi] at hc
    cases hc

/-- A running transmitter with an empty window is Streaming, its low-watermark cause pending: in FrameEnd it stops at the end
marker. -/
theorem EngineInv.starving {par : Config.Params} {begun : Bool} {P : Port} (h : EngineInv begun P)
    (htx : P.txActive = true) (hfill : P.fill = 0) : P.state = .streaming ∧ lwmPending par P = true := by
  rcases h.tx_state htx with hs | hs
  · obtain ⟨hie, -, -⟩ := h.streaming hs
    exact ⟨hs, (lwmPending_iff _ _).2 ⟨hie, by simp [hfill]⟩⟩
  · obtain ⟨-, -, hon, -⟩ := h.frameEnd hs
    exact absurd hfill (hon htx).2

/-- Settles O60: every step keeps each port's margin. With the window empty the margin says that LAT is F_min already, so a
SYM_UNDERRUN would take it beyond SERVICE_BOUND. -/
theorem noUnderrunWithinServiceBound : Obligations.NoUnderrunWithinServiceBound := by
  unfold Obligations.NoUnderrunWithinServiceBound
  intro s hs hl
  rw [latencyInv_iff] at hl
  refine ⟨fun t h => (latencyInv_iff t).2 fun p hp => ?_, fun p bound hp hb hbound hf => ?_⟩
  · have hm := step_sameMachine h
    rw [hm.length] at hp
    rw [hm.par]
    exact step_latencyMargin hs (hl p hp) hp h
  · obtain ⟨hen, hadm, hfill⟩ := fetch_symUnderrun hf
    obtain ⟨htx, -⟩ := (Bool.and_eq_true _ _).mp hen
    obtain ⟨hstate, hlow⟩ := (hs.facts hp).engine.starving (par := s.par) htx hfill
    have hmargin : fMin s.par (s.port p) ≤ (s.port p).fill.toNat + (s.port p).lat := hl p hp hstate hlow
    have hlat := txAdmitted_le hadm bound hb
    rw [latAfterTx_of_lwmPending hlow] at hlat
    have hempty : (s.port p).fill.toNat = 0 := by rw [hfill]; rfl
    omega

end Sys2Proof.Machine
end

section
/-! PROOFS. The family 70_reset_and_hazards.md: the values reset leaves (R281), and the reset event (R280). -/

namespace Sys2Proof.Machine

/-! ### What reset leaves -/

/-- The counts of the reset state hold any PORT_LIMIT the spec allows (10_state.md R22). -/
theorem ofNat8_portLimit_toNat {limit : Nat} (h : limit ≤ 16) : (BitVec.ofNat 8 limit).toNat = limit := by
  rw [BitVec.toNat_ofNat, Nat.mod_eq_of_lt (by omega)]

theorem irqLevel_resetOf (limit : Nat) (par : Config.Params) : irqLevel (State.resetOf limit par) = false := by
  rw [irqLevel, List.any_eq_false]
  intro P hP
  rw [List.eq_of_mem_replicate hP]
  exact Bool.false_ne_true

section
variable {s : State} {p : PortId}

theorem fillerCode_eq_none (hc : causePending s.par (s.port p) = false) : fillerCode s p = none := by
  simp [fillerCode, activationEntry, hc]

theorem transmitterCode_eq_none (hen : txEnabled (s.port p) = false) : transmitterCode s p = none := by
  simp [transmitterCode, hen]

/-- Both causes of a port at reset are masked (70_reset_and_hazards.md R281). -/
theorem fillerCode_of_reset {par : Config.Params} (h : s.port p = Port.reset par) : fillerCode s p = none :=
  fillerCode_eq_none (by rw [h]; exact causePending_eq_false (.inl rfl) (.inl rfl))

theorem transmitterCode_of_reset {par : Config.Params} (h : s.port p = Port.reset par) : transmitterCode s p = none :=
  transmitterCode_eq_none (by rw [h]; exact txEnabled_eq_false (.inl rfl))

end

/-- Settles O44: the global fields, then a port, which is at reset (`resetOf_port`), so that neither of its agents has a
step. -/
theorem resetLeavesTheSpecsValues : Obligations.ResetLeavesTheSpecsValues := by
  unfold Obligations.ResetLeavesTheSpecsValues
  rintro limit par _ rfl - h16
  have hcount := ofNat8_portLimit_toNat h16
  refine ⟨rfl, resetOf_ports_length limit par, rfl, hcount, hcount, rfl, rfl, rfl, irqLevel_resetOf limit par, ?_⟩
  rintro p _ hp rfl
  have hport := resetOf_port par hp
  have hfiller := fillerCode_of_reset hport
  have htransmitter := transmitterCode_of_reset hport
  simp [hport, hfiller, htransmitter, Port.reset, PortConfig.reset, Config.gpioSentinel]

/-! ### The reset event -/

theorem fetch_reset {s : State} {rest : List Turn} (h : s.agenda = .reset :: rest) : fetch s = .reset := by
  simp only [fetch, h]

theorem step_of_reset {s : State} (h : fetch s = .reset) : step s = .next (resetStep s.advance) := by
  simp only [step, h]

/-- Settles O45: the reset step, run once its turn is taken. -/
theorem resetEventResets : Obligations.ResetEventResets := by
  unfold Obligations.ResetEventResets
  intro s rest h
  rw [step_of_reset (fetch_reset h), advance_of_agenda h]
  rfl

end Sys2Proof.Machine
end
